-- ==== Sys2Proof/Word.lean ====
section
/-! DEFINITION. The words that cross the serial link: a byte, and the 2- and 4-byte fields of a payload (R167, R171, R181). -/

namespace Sys2Proof

/-- One byte of a frame. -/
abbrev Byte := BitVec 8

/-- A 2-byte field of a payload. -/
abbrev Half := BitVec 16

/-- A 4-byte field of a payload. -/
abbrev Quad := BitVec 32

end Sys2Proof
end

