-- ==== Sys2Proof/Config.lean ====
section
/-! DEFINITION. What the manual leaves to the part or leaves open: free values, each an opaque constant with no body,
so that nothing proved about the model can lean on a particular choice. -/

namespace Sys2Proof

/-- Byte `i` (0 to 7) of the factory serial, different for every part and never changing (R178). Log entry 1. -/
opaque Config.serialByte : Nat → Byte

/-- The order in which two blocks take the consequences of one event, where the manual says that either may be taken
first (R91, R109, R117, R155). Applied to the counter `State.free`. Log entry 2. -/
opaque Config.orderFree : Nat → Bool

/-- Which neighbour is taken when a mean speed lies exactly half-way between two whole rpm: R51 says "the nearest rpm" and
gives no rule for the tie. Arguments: the number of periods and their sum. Log entry 3. -/
opaque Config.rpmTieUp : Nat → Nat → Bool

/-- What a reply field of the given number of bytes carries for a number too large for it (R181 gives none). Log entry 4. -/
opaque Config.wideField : Nat → Nat → Nat

/-- The payload of the reply to an accepted SUBST_CLEAR of a channel byte: R188 does not state one. Log entry 5. -/
opaque Config.substClearReply : Byte → List Byte

end Sys2Proof
end

