-- ==== Sys2Proof/Syntax.lean ====
section
/-! DEFINITION. The commands the part takes: one constructor for each row of spec/opcode_table.json, in the table's order,
and the requests a frame can carry (R171). -/

namespace Sys2Proof

/-- The three digital inputs with noise rejection (R116). -/
inductive InputPin
  | tankIn
  | float
  | cover
  deriving DecidableEq, Repr

/-- The reset sources whose end is an event from outside the comparator (R153); the supply reset ends by CUT_RELEASE (R152). -/
inductive ResetSource
  | powerOn
  | pin
  | linkFull
  deriving DecidableEq, Repr

/-- The restore block of FILTER_FIT, by its marker 0, 1 or 2 (R138, R171). -/
inductive Restore
  | absent
  | accounts (load volume seconds : Quad)
  | accountsAndBaseline (load volume seconds : Quad) (baseline : Half)
  deriving DecidableEq, Repr

/-- The payload of FILTER_FIT (R138, R171). -/
structure FitParams where
  slot : Byte
  ratingKind : Byte
  rated : Quad
  capture : Byte
  riseLimit : Half
  tag : List Byte
  restore : Restore
  deriving DecidableEq, Repr

/-- The refusal reasons, codes 1 to 10 in this order (R170). -/
inductive Reason
  | unknownKind
  | badLength
  | badValue
  | wrongState
  | busy
  | notFitted
  | coverNotOpened
  | badSetup
  | faultLatched
  | frameError
  deriving DecidableEq, Repr

/-- A request as the Link Port hands it to the block that owns it: the kinds of R171, and a frame that the Link Port answers
itself with a refusal (unknown kind, wrong length, or a failed check; R168, R170). Where the rest of the length check belongs
to the kind's own rule, the bytes it judges are kept as they came. -/
inductive Request
  | ident
  | setupSet (item index : Byte) (value : List Byte)
  | setupGet (item index : Byte)
  | start
  | reset (scope : Byte)
  | cleanMode (mode level : Byte)
  | dryMode (mode setpoint : Byte)
  | fanCeiling (level : Byte)
  | fanBoost (level : Byte) (duration : Half)
  | status (page : Byte)
  | channelGet (channel : Byte)
  | eventsRead
  | watchSet (rise fall : BitVec 24) (oneShot attention : Byte)
  | faultClear (target channel : Byte)
  | filterFit (fit : FitParams)
  | filterRemove (slot : Byte)
  | filterGet (slot : Byte)
  | filterCheck
  | pumpRun
  | pumpCancel
  | substSet (channel kind : Byte) (params : List Byte)
  | substClear (channel : Byte)
  | serviceRun (kind : Byte) (params : List Byte)
  | serviceStop
  | refusedByLink (kind : Byte) (reason : Reason)
  deriving DecidableEq, Repr

/-- The commands: one constructor for each row of spec/opcode_table.json. A host request stands for the arrival of its valid
frame; an event row stands for the event itself (R169, file 95). -/
inductive Instr
  | ident
  | setupSet (item index : Byte) (value : List Byte)
  | setupGet (item index : Byte)
  | start
  | resetFull
  | resetSoft
  | cleanMode (mode level : Byte)
  | dryMode (mode setpoint : Byte)
  | fanCeiling (level : Byte)
  | fanBoost (level : Byte) (duration : Half)
  | status (page : Byte)
  | channelGet (channel : Byte)
  | eventsRead
  | watchSet (rise fall : BitVec 24) (oneShot attention : Byte)
  | faultClearFan (channel : Byte)
  | faultClearCompressor (channel : Byte)
  | faultClearPump (channel : Byte)
  | faultClearLink (channel : Byte)
  | faultClearChannel (channel : Byte)
  | filterFit (fit : FitParams)
  | filterRemove (slot : Byte)
  | filterGet (slot : Byte)
  | filterCheck
  | pumpRun
  | pumpCancel
  | substSet (channel kind : Byte) (params : List Byte)
  | substClear (channel : Byte)
  | serviceRunFan (params : List Byte)
  | serviceRunCompressor (params : List Byte)
  | serviceRunPump (params : List Byte)
  | serviceStop
  /-- The CHECK byte of the frame being received arrives. -/
  | frameComplete (check : Byte)
  /-- A LEN byte above 200 arrives. -/
  | overlong (len : Byte)
  | truncated
  | replySent
  | linkSilent
  | softReset
  | linkFullReset
  | powerOn
  | resetNAssert
  | supplyCut
  /-- The bus rises to 19.0 V or above, or falls below it. -/
  | supplySenseCrossing (rising : Bool)
  | cutRelease
  | resetRelease (source : ResetSource)
  | jobTick
  | slotStart
  /-- The conversion under way completes; `raw` is what the pin converts to. -/
  | sampleDelivered (raw : BitVec 12)
  | defrostStopEnd
  | defrostEnd
  | coilFrostTrigger
  | periodicDefrostTrigger
  | lockoutEnd
  | startAttempt
  | fanReadyStart
  | startWaitTimeout
  | retryWaitEnd
  | currentCheck3
  | startConfirmation
  | minOnTimeStop
  | overcurrentTrip
  | runOnEnd
  | idleSampleStart
  | idleSampleEnd
  | dryWeakRise
  | boostExpiry
  /-- A rising FAN_TACH edge, `period` nanoseconds after the edge before it. -/
  | tachEdge (period : Nat)
  | fanStall
  | fanRetry
  | stallCountExpiry
  | pmWarmupEnd
  | cleanStepDown
  | carriedStepDown
  | cleanFallbackTimeout
  /-- A pin takes the given level (present, active or open when `level` is true). -/
  | inputPinChange (input : InputPin) (level : Bool)
  | coverAccepted
  | tankInAccepted
  | floatAccepted
  | drainClear
  | pumpRunStart
  | pumpNoFlowTest
  | pumpBlindDone
  | pumpTimeout
  | pumpRestEnd
  | checkStart
  | checkRetryEnd
  | checkTimeout
  | serviceRunExpiry
  | byteReceived (byte : Byte)
  deriving DecidableEq, Repr

end Sys2Proof
end

