-- ==== Sys2Proof/WellFormed.lean ====
section
/-! DEFINITION. The checks on a command's operands that its types do not make: what a frame can carry (LEN is at most 200,
R167; a tag has at most 12 characters, R171) and what an event row's own words require. -/

namespace Sys2Proof

/-- A tach period is a positive time; a frame's payload fits LEN; OVERLONG is about a LEN above 200. -/
def Instr.wellFormed : Instr → Bool
  | .setupSet _ _ value => decide (value.length ≤ 198)
  | .filterFit fit => decide (fit.tag.length ≤ 12)
  | .substSet _ _ params => decide (params.length ≤ 198)
  | .serviceRunFan params => decide (params.length ≤ 199)
  | .serviceRunCompressor params => decide (params.length ≤ 199)
  | .serviceRunPump params => decide (params.length ≤ 199)
  | .overlong len => decide (200 < len.toNat)
  | .tachEdge period => decide (0 < period)
  | .ident | .setupGet _ _ | .start | .resetFull | .resetSoft | .cleanMode _ _ | .dryMode _ _ | .fanCeiling _
  | .fanBoost _ _ | .status _ | .channelGet _ | .eventsRead | .watchSet _ _ _ _ | .faultClearFan _
  | .faultClearCompressor _ | .faultClearPump _ | .faultClearLink _ | .faultClearChannel _ | .filterRemove _
  | .filterGet _ | .filterCheck | .pumpRun | .pumpCancel | .substClear _ | .serviceStop | .frameComplete _
  | .truncated | .replySent | .linkSilent | .softReset | .linkFullReset | .powerOn | .resetNAssert | .supplyCut
  | .supplySenseCrossing _ | .cutRelease | .resetRelease _ | .jobTick | .slotStart | .sampleDelivered _
  | .defrostStopEnd | .defrostEnd | .coilFrostTrigger | .periodicDefrostTrigger | .lockoutEnd | .startAttempt
  | .fanReadyStart | .startWaitTimeout | .retryWaitEnd | .currentCheck3 | .startConfirmation | .minOnTimeStop
  | .overcurrentTrip | .runOnEnd | .idleSampleStart | .idleSampleEnd | .dryWeakRise | .boostExpiry | .fanStall
  | .fanRetry | .stallCountExpiry | .pmWarmupEnd | .cleanStepDown | .carriedStepDown | .cleanFallbackTimeout
  | .inputPinChange _ _ | .coverAccepted | .tankInAccepted | .floatAccepted | .drainClear | .pumpRunStart
  | .pumpNoFlowTest | .pumpBlindDone | .pumpTimeout | .pumpRestEnd | .checkStart | .checkRetryEnd | .checkTimeout
  | .serviceRunExpiry | .byteReceived _ => true

end Sys2Proof
end

