-- ==== Sys2Proof/Machine/State.lean ====
section
/-! DEFINITION. The state of the part, as plain data: one record for each block of the block overview (spec 00), the queue of
waiting commands, and the state right after a full reset. -/

namespace Sys2Proof.Machine

/-- The eight analog channels, in channel-number order (R1). -/
inductive Channel
  | rh | roomT | coilT | tankLvl | filterDp | pm | supply | compI
  deriving DecidableEq, Repr

/-- One thing for each channel, in channel-number order. -/
structure PerChannel (α : Type) where
  rh : α
  roomT : α
  coilT : α
  tankLvl : α
  filterDp : α
  pm : α
  supply : α
  compI : α
  deriving DecidableEq, Repr

/-- The states of a channel (R19), in the order of R18. -/
inductive ChanState
  | off | warming | qualifying | qualified | faulted
  deriving DecidableEq, Repr

/-- A delivered sample (R3) with the accepted mark of R18. -/
structure Sample where
  raw : Option Nat
  value : Int
  rail : Bool
  substituted : Bool
  takenAt : Nat
  accepted : Bool
  deriving DecidableEq, Repr

/-- A channel record (R18). -/
structure Chan where
  state : ChanState
  last : Option Sample
  window : List Int
  run : Nat
  threshold : Nat
  faultCount : Nat
  faultLimit : Nat
  value : Option Int
  lastAccepted : Option Nat
  subst : Bool
  warmup : Option Nat
  deriving DecidableEq, Repr

/-- Who may take an emphasis claim (R6). -/
inductive Claimant
  | dry | water | filter | service
  deriving DecidableEq, Repr

/-- An emphasis claim (R6). -/
structure Claim where
  claimant : Claimant
  channel : Channel
  deriving DecidableEq, Repr

/-- The Measurement Scanner (R5, R6, R9, R10): `seq` and `members` are those of the sequence in force. -/
structure Scanner where
  plan : List Channel
  claims : List Claim
  seq : List Channel
  members : List Channel
  pos : Nat
  converting : Option Channel
  deriving DecidableEq, Repr

/-- The kinds of a demand row (R39). -/
inductive RowKind
  | atLeast | exactly
  deriving DecidableEq, Repr

/-- A row of the demand table (R39). -/
structure Row where
  active : Bool
  kind : RowKind
  level : Nat
  takenAt : Nat
  deriving DecidableEq, Repr

/-- The rows by their claimants (R39). -/
inductive RowName
  | clean | dry | filter | service | boost
  deriving DecidableEq, Repr

/-- The Airflow Arbiter (R39, R41, R42, R45, R46). -/
structure Arbiter where
  clean : Row
  dry : Row
  filter : Row
  service : Row
  boost : Row
  boostRemaining : Option Nat
  hostCeiling : Nat
  granted : Nat
  airflowShort : Bool
  deriving DecidableEq, Repr

/-- The states of the Fan Drive (R49). -/
inductive FanState
  | off | spinningUp | running | stalled | fault
  deriving DecidableEq, Repr

/-- The Fan Drive (R49). `edge`, `periods` and `periodSum` are what this second has seen of the tachometer (R51). -/
structure Fan where
  state : FanState
  target : Nat
  measured : Option Nat
  atLevel : Bool
  settleCount : Nat
  stalls : Nat
  fault : Bool
  timer : Nat
  runTime : Nat
  discard : Bool
  edge : Bool
  periods : Nat
  periodSum : Nat
  deriving DecidableEq, Repr

/-- The Compressor Drive (R90): the Drying Controller's request, and COMP_ON. -/
structure CompDrive where
  request : Bool
  on : Bool
  deriving DecidableEq, Repr

/-- The cleaning modes (R60). -/
inductive CleanMode
  | off | manual | auto
  deriving DecidableEq, Repr

/-- Why the AUTO level has its value (R60, R65). -/
inductive Basis
  | band | floor | carried | fallback
  deriving DecidableEq, Repr

/-- The Cleaning Controller (R60). -/
structure Cleaning where
  mode : CleanMode
  manualLevel : Option Nat
  autoLevel : Option Nat
  basis : Option Basis
  band : Option Nat
  stepDown : Option Nat
  unqualified : Option Nat
  pmPwr : Bool
  deriving DecidableEq, Repr

/-- The drying modes (R75). -/
inductive DryMode
  | off | target | continuous
  deriving DecidableEq, Repr

/-- The compressor phases (R80), in the order of R75. -/
inductive Phase
  | idle | lockout | starting | running | stopping
  deriving DecidableEq, Repr

/-- Why a start or a run failed (R84). -/
inductive FailReason
  | noCurrent | overcurrent
  deriving DecidableEq, Repr

/-- The phase in which a failure was detected (R75). -/
inductive FailPhase
  | starting | running
  deriving DecidableEq, Repr

/-- The last failure (R75). -/
structure Failure where
  reason : FailReason
  phase : FailPhase
  time : Nat
  deriving DecidableEq, Repr

/-- Why COMP_ON last went off (R80). -/
inductive StopReason
  | demand | modeOff | airflowShort | noCurrent | overcurrent | interlock | hold | defrost | reset
  deriving DecidableEq, Repr

/-- The last stop (R75). -/
structure Stop where
  reason : StopReason
  time : Nat
  deriving DecidableEq, Repr

/-- The drying levels 0, 1 and 2 (R96). -/
inductive DryLevel
  | normal | defrost | hold
  deriving DecidableEq, Repr

/-- The hold causes, in the order of R103. -/
inductive HoldCause
  | tankFull | tankOut | drainBlocked | supplyLow | coverOpen | fanFault | linkSilent | roomCold | sensorLost
  deriving DecidableEq, Repr

/-- The kinds of a context record (R97). -/
inductive ContextKind
  | idle | run | defrost
  deriving DecidableEq, Repr

/-- The compressor phase kept in a RUN context (R97). -/
inductive RunPhase
  | starting | running | stopping
  deriving DecidableEq, Repr

/-- The defrost steps (R97, R100, R101). -/
inductive DefrostStep
  | stop | melt
  deriving DecidableEq, Repr

/-- A context record (R97). -/
structure Context where
  kind : ContextKind
  phase : Option RunPhase
  offTime : Nat
  runSince : Nat
  cycleStart : Nat
  cycleTank : Option Int
  step : Option DefrostStep
  melt : Option Nat
  endAfter : Bool
  deriving DecidableEq, Repr

/-- Why a melt ended (R101). -/
inductive DefrostReason
  | normal | timeout
  deriving DecidableEq, Repr

/-- How the last defrost ended (R102, R111). -/
structure DefrostEnd where
  endedAt : Nat
  reason : DefrostReason
  used : Nat
  deriving DecidableEq, Repr

/-- The last-defrost record (R111). -/
structure LastDefrost where
  enteredAt : Nat
  ended : Option DefrostEnd
  deriving DecidableEq, Repr

/-- The Drying Controller: the record of R75 and the levels, slots, sets and defrost state of R96 to R111. `offTank`, `runStart`,
`runTank`, `defrostStart` and `defrostTank` are the cycle starts that a context will carry (R97). -/
structure Drying where
  mode : DryMode
  setpoint : Nat
  demand : Bool
  disabled : Bool
  phase : Phase
  offTime : Nat
  offTank : Option Int
  onTime : Option Nat
  startWait : Option Nat
  retryWait : Option Nat
  currentSeen : Bool
  lastStart : Option Int
  trip : Option Nat
  runOn : Option Nat
  failures : Nat
  lastFailure : Option Failure
  lastStop : Option Stop
  runSince : Nat
  coilFrost : Option Nat
  idleTimer : Option Nat
  sampleTimer : Option Nat
  weak : Nat
  riseRef : Option Int
  dryWeak : Bool
  starts : Nat
  totalRun : Nat
  runStart : Nat
  runTank : Option Int
  level : DryLevel
  slot1 : Option Context
  slot2 : Option Context
  holdSet : List HoldCause
  deferred : List HoldCause
  roomCold : Bool
  step : Option DefrostStep
  stepTimer : Option Nat
  melt : Option Nat
  warm : Option Nat
  defrostStart : Nat
  defrostTank : Option Int
  defrostCount : Nat
  lastDefrost : Option LastDefrost
  deriving DecidableEq, Repr

/-- A filtered digital input (R116): the pin, the filtered value, and whether a rejection timer runs. `true` is present, active
or open. -/
structure Input where
  pin : Bool
  filtered : Bool
  timing : Bool
  deriving DecidableEq, Repr

/-- The tank states (R114). -/
inductive TankState
  | out | normal | nearFull | full
  deriving DecidableEq, Repr

/-- The states of the pump run record (R123). -/
inductive PumpState
  | idle | running | resting
  deriving DecidableEq, Repr

/-- The kinds of a pump run (R123, R124). -/
inductive PumpKind
  | level | blind | host | service
  deriving DecidableEq, Repr

/-- How a pump run ended (R123). -/
inductive PumpResult
  | done | blindDone | timeout | noFlow | cancelled | abortedTankOut | abortedReset
  deriving DecidableEq, Repr

/-- The pump run record (R123). -/
structure PumpRun where
  state : PumpState
  kind : Option PumpKind
  startedAt : Option Nat
  startLevel : Option Int
  latestLevel : Option Int
  elapsed : Nat
  rest : Option Nat
  result : Option PumpResult
  endedAt : Option Nat
  moved : Option Nat
  deriving DecidableEq, Repr

/-- The Water Controller (R114). -/
structure Water where
  tankIn : Input
  float : Input
  cover : Input
  tank : TankState
  drainBlocked : Bool
  drainClear : Option Nat
  held : Option Int
  total : Nat
  emptyings : Nat
  unknownEmptyings : Nat
  unknownRuns : Nat
  pump : PumpRun
  failures : Nat
  fault : Bool
  pumpOn : Bool
  deriving DecidableEq, Repr

/-- The filter slots (R131). -/
inductive Slot
  | pre | fine | carbon
  deriving DecidableEq, Repr

/-- One thing for each filter slot. -/
structure PerSlot (α : Type) where
  pre : α
  fine : α
  carbon : α
  deriving DecidableEq, Repr

/-- The wear states (R132, R133). -/
inductive SlotState
  | empty | fitted | nearWorn | worn | clogged
  deriving DecidableEq, Repr

/-- The measures a filter is rated by (R132). -/
inductive RatingKind
  | load | volume | hours
  deriving DecidableEq, Repr

/-- Why a filter is worn (R132). -/
inductive WornReason
  | load | volume | hours | pressure
  deriving DecidableEq, Repr

/-- A filter slot record (R132). `loadRem` counts parts of a µg, 3,600,000,000 to the µg (R135); `volumeRem` counts 36ths of
0.01 m³ (R136). -/
structure SlotRec where
  state : SlotState
  tag : List Byte
  ratingKind : RatingKind
  rated : Nat
  capture : Nat
  load : Nat
  volume : Nat
  runSecs : Nat
  fittedAt : Nat
  baseline : Option Int
  latest : Option Int
  riseLimit : Nat
  wornReason : Option WornReason
  coverOpened : Bool
  loadRem : Nat
  volumeRem : Nat
  deriving DecidableEq, Repr

/-- The states of the pressure check (R142). -/
inductive CheckState
  | idle | due | waiting | sampling
  deriving DecidableEq, Repr

/-- Why a check became due (R142). -/
inductive DueCause
  | interval | host | fit
  deriving DecidableEq, Repr

/-- How a check ended (R142). -/
inductive CheckResult
  | done | failedNoLevel | failedNoReading | preempted | removed | abortedReset
  deriving DecidableEq, Repr

/-- The pressure check record (R142). -/
structure Check where
  state : CheckState
  dueCause : Option DueCause
  requested : Bool
  retry : Option Nat
  timer : Option Nat
  samples : Nat
  sum : Int
  runCount : Nat
  lastResult : Option CheckResult
  lastEnded : Option Nat
  deriving DecidableEq, Repr

/-- Filter Accounts (R132, R142). -/
structure Filters where
  slots : PerSlot SlotRec
  check : Check
  deriving DecidableEq, Repr

/-- An edge of an event (R158). -/
inductive Edge
  | rise | fall | once
  deriving DecidableEq, Repr

/-- The causes of a reset (R161). -/
inductive ResetCause
  | powerOn | pin | supply | linkFull | linkSoft
  deriving DecidableEq, Repr

/-- An entry of the pending list (R160). -/
structure EventEntry where
  id : Nat
  edge : Edge
  count : Nat
  cause : Option ResetCause
  deriving DecidableEq, Repr

/-- The Event Latch (R158 to R163). The lists of 21 are indexed by condition id, the list of 6 by one-shot id less 21. -/
structure Events where
  stored : List Bool
  riseEn : List Bool
  fallEn : List Bool
  onceEn : List Bool
  attention : Bool
  list : List EventEntry
  lastCause : ResetCause
  deriving DecidableEq, Repr

/-- The kinds of a service run (R182). -/
inductive ServiceKind
  | fan | compressor | pump
  deriving DecidableEq, Repr

/-- The service run record (R182). -/
structure ServiceRun where
  kind : ServiceKind
  level : Option Nat
  channel : Option Channel
  remaining : Option Nat
  deriving DecidableEq, Repr

/-- What a substitution holds (R187). -/
inductive SubstKind
  | fixed (value : Int)
  | ramp (start step stop : Int) (again : Bool)
  deriving DecidableEq, Repr

/-- A substitution record in force (R187). -/
structure Subst where
  kind : SubstKind
  next : Int
  deriving DecidableEq, Repr

/-- The Service Unit (R182, R187). -/
structure Service where
  run : Option ServiceRun
  subst : PerChannel (Option Subst)
  deriving DecidableEq, Repr

/-- The part states (R174). -/
inductive PartState
  | setup | active
  deriving DecidableEq, Repr

/-- The receiver (R167): hunting, or inside a frame with what it has of it. In `payload` the bytes received so far stand in order;
when there are `len` of them the CHECK byte is awaited. -/
inductive Receiver
  | hunting
  | kind
  | len (kind : Byte)
  | payload (kind len : Byte) (bytes : List Byte)
  deriving DecidableEq, Repr

/-- What follows when the reply has been sent (R177). -/
inductive AfterReply
  | nothing | softReset | fullReset
  deriving DecidableEq, Repr

/-- The request being answered: the reply's bytes as they go out on LINK_TX, SYNC to CHECK, and what follows (R169, R177). -/
structure Answer where
  request : Request
  reply : List Byte
  after : AfterReply
  deriving DecidableEq, Repr

/-- The Link Port (R167 to R174, R180). -/
structure Link where
  part : PartState
  receiver : Receiver
  answer : Option Answer
  held : Option Request
  overlong : Nat
  truncated : Nat
  badCheck : Nat
  overrun : Nat
  silence : Nat
  silent : Bool
  deriving DecidableEq, Repr

/-- The drain arrangements (R115). -/
inductive Drain
  | bucket | pump | gravity
  deriving DecidableEq, Repr

/-- One entry of the AUTO band table (R64). -/
structure Band where
  enter : Nat
  leave : Nat
  level : Nat
  deriving DecidableEq, Repr

/-- One entry of the level table (R38). -/
structure LevelEntry where
  speed : Nat
  flow : Nat
  deriving DecidableEq, Repr

/-- The setup items (R176) that do not stand in another block's record. `levels` holds levels 1 to 12 in order. -/
structure Setup where
  optCompressor : Bool
  optDrain : Drain
  optSlots : PerSlot Bool
  tankCapacity : Nat
  floatReject : Nat
  levels : List LevelEntry
  dryFloor : Nat
  defrostLevel : Nat
  refLevel : Nat
  pressureSlot : Slot
  pmWarmup : Nat
  bands : List Band
  autoFloor : Nat
  cleanFallback : Nat
  stepDownHold : Nat
  lowCeiling : Nat
  clogCap : Nat
  supplyWarn : Nat
  linkSilence : Nat
  trim : Int
  defaultPm : Nat
  checkInterval : Nat
  deriving DecidableEq, Repr

/-- The Time Base (R149 to R151): uptime, the trim of the tick period under way, the conversion slots that have begun in it, and the model's
own note that the tests of the last tick have been made (log entry 51). -/
structure TimeBase where
  uptime : Nat
  trim : Int
  slot : Nat
  tested : Bool
  deriving DecidableEq, Repr

/-- The resets (R152, R153): the cut comparator with its bus at or above 19.0 V, the reset sources asserted beside it, and whether the
part is in reset. -/
structure Resets where
  busHigh : Bool
  cut : Bool
  releasing : Bool
  srcPower : Bool
  srcPin : Bool
  srcLink : Bool
  inReset : Bool
  cause : ResetCause
  deriving DecidableEq, Repr

/-- The whole part. `pending` is the queue of waiting commands, first in, first out; `free` counts the free values taken
(log entry 14). -/
structure State where
  pending : List Instr
  free : Nat
  rst : Resets
  time : TimeBase
  setup : Setup
  scan : Scanner
  chans : PerChannel Chan
  arb : Arbiter
  fan : Fan
  comp : CompDrive
  clean : Cleaning
  dry : Drying
  water : Water
  filt : Filters
  supplyLow : Bool
  ev : Events
  serv : Service
  link : Link
  deriving DecidableEq, Repr

/-- The part has no fault that stops it: every fault the manual names is a value of `State`, and the part goes on. -/
inductive Fault
  deriving DecidableEq, Repr

/-- Why a command is refused. -/
inductive Refusal
  /-- Raised by `exec` for a command that has no meaning yet. Safe: the model stops where the part goes on. No arm raises it. -/
  | notModelled (mnemonic : String)
  deriving DecidableEq, Repr

/-! Updates of one block at a time. -/

def State.setPending (s : State) (x : List Instr) : State := { s with pending := x }
def State.setFree (s : State) (x : Nat) : State := { s with free := x }
def State.setRst (s : State) (x : Resets) : State := { s with rst := x }
def State.setTime (s : State) (x : TimeBase) : State := { s with time := x }
def State.setSetup (s : State) (x : Setup) : State := { s with setup := x }
def State.setScan (s : State) (x : Scanner) : State := { s with scan := x }
def State.setChans (s : State) (x : PerChannel Chan) : State := { s with chans := x }
def State.setArb (s : State) (x : Arbiter) : State := { s with arb := x }
def State.setFan (s : State) (x : Fan) : State := { s with fan := x }
def State.setComp (s : State) (x : CompDrive) : State := { s with comp := x }
def State.setClean (s : State) (x : Cleaning) : State := { s with clean := x }
def State.setDry (s : State) (x : Drying) : State := { s with dry := x }
def State.setWater (s : State) (x : Water) : State := { s with water := x }
def State.setFilt (s : State) (x : Filters) : State := { s with filt := x }
def State.setSupplyLow (s : State) (x : Bool) : State := { s with supplyLow := x }
def State.setEv (s : State) (x : Events) : State := { s with ev := x }
def State.setServ (s : State) (x : Service) : State := { s with serv := x }
def State.setLink (s : State) (x : Link) : State := { s with link := x }

/-! The values after a full reset, block by block. -/

/-- R35, for a channel with the given state, threshold and fault limit. -/
def Chan.atReset (state : ChanState) (threshold limit : Nat) : Chan :=
  { state := state, last := none, window := [], run := 0, threshold := threshold, faultCount := 0, faultLimit := limit,
    value := none, lastAccepted := none, subst := false, warmup := none }

/-- R18, R35. -/
def chansAtReset : PerChannel Chan :=
  { rh := Chan.atReset .qualifying 4 16, roomT := Chan.atReset .qualifying 4 16, coilT := Chan.atReset .qualifying 2 16,
    tankLvl := Chan.atReset .qualifying 3 16, filterDp := Chan.atReset .qualifying 4 16, pm := Chan.atReset .off 8 32,
    supply := Chan.atReset .qualifying 2 8, compI := Chan.atReset .qualifying 1 8 }

/-- R5, R15. -/
def Scanner.atReset : Scanner :=
  { plan := [.rh, .roomT, .coilT, .tankLvl, .filterDp, .pm, .supply, .compI], claims := [],
    seq := [.rh, .roomT, .coilT, .tankLvl, .filterDp, .supply, .compI],
    members := [.rh, .roomT, .coilT, .tankLvl, .filterDp, .pm, .supply, .compI], pos := 0, converting := none }

/-- R48: an inactive row. -/
def Row.atReset : Row := { active := false, kind := .atLeast, level := 0, takenAt := 0 }

/-- R48. -/
def Arbiter.atReset : Arbiter :=
  { clean := Row.atReset, dry := Row.atReset, filter := Row.atReset, service := Row.atReset, boost := Row.atReset,
    boostRemaining := none, hostCeiling := 12, granted := 0, airflowShort := false }

/-- R59. -/
def Fan.atReset : Fan :=
  { state := .off, target := 0, measured := none, atLevel := false, settleCount := 0, stalls := 0, fault := false, timer := 0,
    runTime := 0, discard := false, edge := false, periods := 0, periodSum := 0 }

/-- R74. -/
def Cleaning.atReset : Cleaning :=
  { mode := .off, manualLevel := none, autoLevel := none, basis := none, band := none, stepDown := none, unqualified := none,
    pmPwr := false }

/-- R95, R112. -/
def Drying.atReset : Drying :=
  { mode := .off, setpoint := 50, demand := false, disabled := false, phase := .lockout, offTime := 0, offTank := none,
    onTime := none, startWait := none, retryWait := none, currentSeen := false, lastStart := none, trip := none, runOn := none,
    failures := 0, lastFailure := none, lastStop := none, runSince := 0, coilFrost := none, idleTimer := none,
    sampleTimer := none, weak := 0, riseRef := none, dryWeak := false, starts := 0, totalRun := 0, runStart := 0,
    runTank := none, level := .normal, slot1 := none, slot2 := none, holdSet := [], deferred := [], roomCold := false,
    step := none, stepTimer := none, melt := none, warm := none, defrostStart := 0, defrostTank := none, defrostCount := 0,
    lastDefrost := none }

/-- R130: the record with no run. -/
def PumpRun.atReset : PumpRun :=
  { state := .idle, kind := none, startedAt := none, startLevel := none, latestLevel := none, elapsed := 0, rest := none,
    result := none, endedAt := none, moved := none }

/-- R130, with the filtered inputs at the pins' levels (R116). The tank state is that of R118 in BUCKET mode with TANK_LVL not
QUALIFIED. -/
def Water.atReset (tankIn float cover : Bool) : Water :=
  { tankIn := { pin := tankIn, filtered := tankIn, timing := false }, float := { pin := float, filtered := float, timing := false },
    cover := { pin := cover, filtered := cover, timing := false },
    tank := if tankIn then (if float then .full else .normal) else .out,
    drainBlocked := false, drainClear := none, held := none, total := 0, emptyings := 0, unknownEmptyings := 0, unknownRuns := 0,
    pump := PumpRun.atReset, failures := 0, fault := false, pumpOn := false }

/-- R132: an EMPTY record with the given cover-opened flag. -/
def SlotRec.emptyWith (coverOpened : Bool) : SlotRec :=
  { state := .empty, tag := [], ratingKind := .load, rated := 0, capture := 0, load := 0, volume := 0, runSecs := 0, fittedAt := 0,
    baseline := none, latest := none, riseLimit := 0, wornReason := none, coverOpened := coverOpened, loadRem := 0, volumeRem := 0 }

/-- R148; the check's last ended at is the model's (log entry 27). -/
def Filters.atReset : Filters :=
  { slots := { pre := SlotRec.emptyWith true, fine := SlotRec.emptyWith true, carbon := SlotRec.emptyWith true },
    check := { state := .idle, dueCause := none, requested := false, retry := none, timer := none, samples := 0, sum := 0,
               runCount := 0, lastResult := none, lastEnded := none } }

/-- R159, R164: the enables after a full reset, all conditions false, and one RESET entry with the given cause. -/
def Events.atReset (cause : ResetCause) : Events :=
  { stored := List.replicate 21 false, riseEn := List.replicate 21 true, fallEn := List.replicate 21 false,
    onceEn := List.replicate 6 true, attention := true, list := [{ id := 21, edge := .once, count := 1, cause := some cause }],
    lastCause := cause }

/-- R182, R188. -/
def Service.atReset : Service :=
  { run := none,
    subst := { rh := none, roomT := none, coilT := none, tankLvl := none, filterDp := none, pm := none, supply := none, compI := none } }

/-- R180. -/
def Link.atReset : Link :=
  { part := .setup, receiver := .hunting, answer := none, held := none, overlong := 0, truncated := 0, badCheck := 0, overrun := 0,
    silence := 0, silent := false }

/-- The defaults of R38 and R176. -/
def Setup.atReset : Setup :=
  { optCompressor := true, optDrain := .bucket, optSlots := { pre := true, fine := true, carbon := true }, tankCapacity := 3000,
    floatReject := 5,
    levels := [⟨400, 35⟩, ⟨500, 70⟩, ⟨600, 105⟩, ⟨700, 140⟩, ⟨800, 175⟩, ⟨900, 210⟩, ⟨1000, 245⟩, ⟨1100, 280⟩, ⟨1200, 315⟩,
               ⟨1300, 350⟩, ⟨1400, 385⟩, ⟨1500, 420⟩],
    dryFloor := 4, defrostLevel := 6, refLevel := 8, pressureSlot := .fine, pmWarmup := 30,
    bands := [⟨15, 10, 2⟩, ⟨35, 25, 4⟩, ⟨75, 55, 7⟩, ⟨150, 110, 10⟩],
    autoFloor := 1, cleanFallback := 3, stepDownHold := 120, lowCeiling := 4, clogCap := 6, supplyWarn := 2050, linkSilence := 0,
    trim := 0, defaultPm := 15, checkInterval := 86400 }

/-- Every block at its full-reset values, for the given levels of TANK_IN, FLOAT and COVER and the given state of the resets. The
hold-cause set and the stored conditions are still to be taken from the owners (R112, R164). -/
def State.fullReset (rst : Resets) (tankIn float cover : Bool) : State :=
  { pending := [], free := 0, rst := rst, time := { uptime := 0, trim := 0, slot := 0, tested := true }, setup := Setup.atReset, scan := Scanner.atReset,
    chans := chansAtReset, arb := Arbiter.atReset, fan := Fan.atReset, comp := { request := false, on := false },
    clean := Cleaning.atReset, dry := Drying.atReset, water := Water.atReset tankIn float cover, filt := Filters.atReset,
    supplyLow := false, ev := Events.atReset rst.cause, serv := Service.atReset, link := Link.atReset }

/-- The machine right after a power-on reset has ended: the full-reset values of every chapter, with the tank seated, the float
down and the cover closed (DESIGN CHOICE: the pins' levels come from outside; log entry 7), so that no hold cause stands and no
condition is true, the bus at or above 19.0 V, as the end of the comparator's CUT has it (DEDUCED: log entry 7), the pending list
holds RESET POWER_ON alone (R164), and no command waits. -/
def State.reset : State :=
  State.fullReset
    { busHigh := true, cut := false, releasing := false, srcPower := false, srcPin := false, srcLink := false, inReset := false, cause := .powerOn }
    true false false

end Sys2Proof.Machine
end

