-- ==== Sys2Proof/Machine/Ops.lean ====
section
/-! DEFINITION. Named operations over the records of State: containers, rounding, channels, demand rows, emphasis claims and the
pending list. Every read and write of these goes through here. -/

namespace Sys2Proof.Machine

/-- What a step answers. -/
abbrev Result := Host.Outcome State Fault Refusal

/-- 4,294,967,295, at which the 32-bit counters saturate. -/
def maxCount32 : Nat := 4294967295

/-- Nearest whole number to `n / d`, halves away from zero (R1, R25, R122, R126, R146). -/
def roundDiv (n : Int) (d : Nat) : Int :=
  if 0 ≤ n then (((2 * n.natAbs + d) / (2 * d) : Nat) : Int) else -(((2 * n.natAbs + d) / (2 * d) : Nat) : Int)

/-- A timer that counts ticks, if it runs. -/
def tickUp : Option Nat → Option Nat
  | none => none
  | some n => some (n + 1)

/-- A timer that counts ticks down, if it runs. -/
def tickDown : Option Nat → Option Nat
  | none => none
  | some n => some (n - 1)

/-- The timer runs and has reached `limit`. -/
def reached (limit : Nat) : Option Nat → Bool
  | none => false
  | some n => decide (limit ≤ n)

/-- `xs` with `x` added at the end, if it is not there. -/
def insertCause (x : HoldCause) (xs : List HoldCause) : List HoldCause := if x ∈ xs then xs else xs ++ [x]

/-- `xs` without `x`. -/
def eraseCause (x : HoldCause) (xs : List HoldCause) : List HoldCause := xs.filter (fun y => decide (y ≠ x))

/-! Channels and slots -/

/-- The channel numbers of R1. -/
def Channel.num : Channel → Nat
  | .rh => 0 | .roomT => 1 | .coilT => 2 | .tankLvl => 3 | .filterDp => 4 | .pm => 5 | .supply => 6 | .compI => 7

/-- The channel of a number from 0 to 7 (R1). -/
def Channel.ofNum : Nat → Option Channel
  | 0 => some .rh | 1 => some .roomT | 2 => some .coilT | 3 => some .tankLvl | 4 => some .filterDp | 5 => some .pm
  | 6 => some .supply | 7 => some .compI | _ => none

/-- All channels, in channel-number order. -/
def Channel.all : List Channel := [.rh, .roomT, .coilT, .tankLvl, .filterDp, .pm, .supply, .compI]

def PerChannel.get {α : Type} (p : PerChannel α) : Channel → α
  | .rh => p.rh | .roomT => p.roomT | .coilT => p.coilT | .tankLvl => p.tankLvl | .filterDp => p.filterDp | .pm => p.pm
  | .supply => p.supply | .compI => p.compI

def PerChannel.set {α : Type} (p : PerChannel α) (c : Channel) (v : α) : PerChannel α :=
  match c with
  | .rh => { p with rh := v }
  | .roomT => { p with roomT := v }
  | .coilT => { p with coilT := v }
  | .tankLvl => { p with tankLvl := v }
  | .filterDp => { p with filterDp := v }
  | .pm => { p with pm := v }
  | .supply => { p with supply := v }
  | .compI => { p with compI := v }

/-- Every channel's thing changed by a function that also sees the channel. -/
def PerChannel.map {α β : Type} (f : Channel → α → β) (p : PerChannel α) : PerChannel β :=
  { rh := f .rh p.rh, roomT := f .roomT p.roomT, coilT := f .coilT p.coilT, tankLvl := f .tankLvl p.tankLvl,
    filterDp := f .filterDp p.filterDp, pm := f .pm p.pm, supply := f .supply p.supply, compI := f .compI p.compI }

/-- The slot numbers of R131. -/
def Slot.num : Slot → Nat
  | .pre => 0 | .fine => 1 | .carbon => 2

/-- The slot of a number from 0 to 2 (R131). -/
def Slot.ofNum : Nat → Option Slot
  | 0 => some .pre | 1 => some .fine | 2 => some .carbon | _ => none

def PerSlot.get {α : Type} (p : PerSlot α) : Slot → α
  | .pre => p.pre | .fine => p.fine | .carbon => p.carbon

def PerSlot.set {α : Type} (p : PerSlot α) (c : Slot) (v : α) : PerSlot α :=
  match c with
  | .pre => { p with pre := v }
  | .fine => { p with fine := v }
  | .carbon => { p with carbon := v }

/-- The record of a channel. -/
def State.chan (s : State) (c : Channel) : Chan := s.chans.get c

/-- The qualified value of a channel, absent unless it is QUALIFIED (R19). -/
def State.qual (s : State) (c : Channel) : Option Int := (s.chan c).value

/-- The record of a filter slot. -/
def State.slot (s : State) (n : Slot) : SlotRec := s.filt.slots.get n

def State.setSlot (s : State) (n : Slot) (r : SlotRec) : State :=
  s.setFilt { s.filt with slots := s.filt.slots.set n r }

def State.setCheck (s : State) (c : Check) : State := s.setFilt { s.filt with check := c }

def State.setPump (s : State) (p : PumpRun) : State := s.setWater { s.water with pump := p }

/-! The level table (R38) -/

/-- The entry of a level: level 0 is fixed at 0 and 0, levels 1 to 12 are LEVEL_TABLE (R38). -/
def State.levelEntry (s : State) (level : Nat) : LevelEntry :=
  match level with
  | 0 => ⟨0, 0⟩
  | n + 1 => s.setup.levels.getD n ⟨0, 0⟩

/-! The demand table (R39) -/

def Arbiter.row (a : Arbiter) : RowName → Row
  | .clean => a.clean | .dry => a.dry | .filter => a.filter | .service => a.service | .boost => a.boost

def Arbiter.setRow (a : Arbiter) (n : RowName) (r : Row) : Arbiter :=
  match n with
  | .clean => { a with clean := r }
  | .dry => { a with dry := r }
  | .filter => { a with filter := r }
  | .service => { a with service := r }
  | .boost => { a with boost := r }

/-- A set of a row: active, with the kind and level given and taken at now (R39). -/
def setRow (n : RowName) (kind : RowKind) (level : Nat) (s : State) : State :=
  s.setArb (s.arb.setRow n { active := true, kind := kind, level := level, takenAt := s.time.uptime })

/-- A release of a row: kind, level and taken at are kept, and a row that is not active stays as it was (R39). -/
def releaseRow (n : RowName) (s : State) : State :=
  s.setArb (s.arb.setRow n { s.arb.row n with active := false })

/-- The row is active with kind EXACTLY. -/
def Row.exact (r : Row) : Bool := r.active && decide (r.kind = .exactly)

/-! Emphasis claims (R6, R7) -/

/-- A take: the claim keeps its place if it names the same channel; otherwise it goes to the tail (R6). -/
def takeClaimIn (who : Claimant) (c : Channel) (l : List Claim) : List Claim :=
  if ⟨who, c⟩ ∈ l then l else l.filter (fun x => decide (x.claimant ≠ who)) ++ [⟨who, c⟩]

/-- A release: the claims behind close up (R6). -/
def releaseClaimIn (who : Claimant) (l : List Claim) : List Claim := l.filter (fun x => decide (x.claimant ≠ who))

def takeClaim (who : Claimant) (c : Channel) (s : State) : State :=
  s.setScan { s.scan with claims := takeClaimIn who c s.scan.claims }

def releaseClaim (who : Claimant) (s : State) : State :=
  s.setScan { s.scan with claims := releaseClaimIn who s.scan.claims }

/-- The walk of R7 over the claims, oldest first, with what is already emphasized. -/
def emphasizeFrom : List Channel → List Claim → List Channel
  | acc, [] => acc
  | acc, x :: xs =>
    if x.channel ∈ acc then emphasizeFrom acc xs
    else if acc.length < 2 then emphasizeFrom (acc ++ [x.channel]) xs
    else emphasizeFrom acc xs

/-- The emphasized list (R7). -/
def emphasized (claims : List Claim) : List Channel := emphasizeFrom [] claims

/-! The pending list (R160) -/

/-- Latches one occurrence: an entry of that event and edge counts up to 15 and keeps its place, or a new entry goes to the tail. -/
def latchIn (id : Nat) (edge : Edge) (cause : Option ResetCause) : List EventEntry → List EventEntry
  | [] => [{ id := id, edge := edge, count := 1, cause := cause }]
  | x :: xs =>
    if x.id = id ∧ x.edge = edge then { x with count := min 15 (x.count + 1) } :: xs else x :: latchIn id edge cause xs

/-- A one-shot of the given id (21 to 26), latched if it is enabled (R158, R160). -/
def oneShot (id : Nat) (s : State) : State :=
  if s.ev.onceEn.getD (id - 21) false then s.setEv { s.ev with list := latchIn id .once none s.ev.list } else s

/-! The service run (R182) -/

/-- Clears the record and raises SERVICE_END; undoing the run's effect is the caller's (R182). -/
def endServiceRun (s : State) : State := oneShot 26 (s.setServ { s.serv with run := none })

end Sys2Proof.Machine
end

