-- ==== Sys2Proof/Machine/Flags.lean ====
section
/-! DEFINITION. What is computed from the records and not stored: the 21 conditions and their edges (R158), which hold causes stand
(R103), effective demand (R78), the ceiling (R40), the grant (R42) and ATTN (R163). -/

namespace Sys2Proof.Machine

/-- The part is ACTIVE (R174). -/
abbrev State.isActive (s : State) : Prop := s.link.part = .active

/-- The running signal (R58). -/
abbrev State.running (s : State) : Prop := s.fan.state = .running

/-- The filtered cover input shows the cover open (R116). -/
abbrev State.coverOpen (s : State) : Prop := s.water.cover.filtered = true

/-- A pressure check is in WAITING or SAMPLING (R142). -/
abbrev State.checkBusy (s : State) : Prop := s.filt.check.state = .waiting ∨ s.filt.check.state = .sampling

/-- A COMPRESSOR service run is in force (R185). -/
def State.compressorRun (s : State) : Bool :=
  match s.serv.run with
  | some r => decide (r.kind = .compressor)
  | none => false

/-- Effective demand (R78). -/
def State.effDemand (s : State) : Bool := s.dry.demand || s.compressorRun

/-- The restart lockout has run out (R80, R109). -/
abbrev State.lockoutOver (s : State) : Prop := s.dry.offTime + 181 ≤ s.time.uptime

/-- Some slot is CLOGGED (R134). -/
def State.clogged (s : State) : Bool :=
  decide (s.filt.slots.pre.state = .clogged) || decide (s.filt.slots.fine.state = .clogged)
    || decide (s.filt.slots.carbon.state = .clogged)

/-- Some channel is FAULTED (R33). -/
def State.channelFault (s : State) : Bool := Channel.all.any fun c => decide ((s.chan c).state = .faulted)

/-- A channel that is FAULTED or OFF (R34). -/
def Chan.lost (c : Chan) : Bool := decide (c.state = .faulted) || decide (c.state = .off)

/-- SENSOR_LOST stands (R34). -/
def State.sensorLost (s : State) : Bool := (s.chan .roomT).lost || (s.chan .coilT).lost || (s.chan .compI).lost

/-- A slot that is NEAR_WORN or worse, and one that is WORN or CLOGGED (R134). -/
def SlotState.nearWornUp : SlotState → Bool
  | .empty => false | .fitted => false | .nearWorn => true | .worn => true | .clogged => true

def SlotState.wornUp : SlotState → Bool
  | .empty => false | .fitted => false | .nearWorn => false | .worn => true | .clogged => true

/-- DEFROST: level 1, or slot 2 holds a DEFROST context (R96). -/
def State.defrostCondition (s : State) : Bool :=
  decide (s.dry.level = .defrost) ||
    match s.dry.slot2 with
    | some c => decide (c.kind = .defrost)
    | none => false

/-- The values the owners give the 21 conditions, in id order (R158). -/
def conditions (s : State) : List Bool :=
  [ decide (s.water.tank = .full), decide (s.water.tank = .out), s.water.drainBlocked, s.water.fault, s.fan.fault, s.dry.disabled,
    s.supplyLow, s.water.cover.filtered, s.defrostCondition, decide (s.dry.level = .hold), s.dry.dryWeak, s.arb.airflowShort,
    s.link.silent, s.channelFault, s.filt.slots.pre.state.nearWornUp, s.filt.slots.fine.state.nearWornUp,
    s.filt.slots.carbon.state.nearWornUp, s.filt.slots.pre.state.wornUp, s.filt.slots.fine.state.wornUp,
    s.filt.slots.carbon.state.wornUp, s.clogged ]

/-- Latches the edges from the stored values to the new ones, lowest id first (R158, R160). -/
def latchEdges : Nat → List Bool → List Bool → List Bool → List Bool → List EventEntry → List EventEntry
  | id, new :: news, old :: olds, r :: rs, f :: fs, l =>
    latchEdges (id + 1) news olds rs fs
      (if new && !old && r then latchIn id .rise none l else if !new && old && f then latchIn id .fall none l else l)
  | _, _, _, _, _, l => l

/-- Hands every condition to the Event Latch: a value that differs from the stored one is an edge (R158). -/
def publish (s : State) : State :=
  s.setEv { s.ev with
    stored := conditions s, list := latchEdges 0 (conditions s) s.ev.stored s.ev.riseEn s.ev.fallEn s.ev.list }

/-- ATTN is asserted (low): the list is not empty and attention is enabled, outside reset (R153, R163). -/
def State.attn (s : State) : Bool := !s.rst.inReset && !s.ev.list.isEmpty && s.ev.attention

/-- FAN_PWM is driven (R49). -/
def State.fanPwm (s : State) : Bool := decide (s.fan.state = .spinningUp) || decide (s.fan.state = .running)

/-- Whether the owner's state makes a hold cause stand (R103). -/
def State.stands (s : State) : HoldCause → Bool
  | .tankFull => decide (s.water.tank = .full)
  | .tankOut => decide (s.water.tank = .out)
  | .drainBlocked => s.water.drainBlocked
  | .supplyLow => s.supplyLow
  | .coverOpen => s.water.cover.filtered
  | .fanFault => s.fan.fault
  | .linkSilent => s.link.silent
  | .roomCold => s.dry.roomCold
  | .sensorLost => s.sensorLost

/-- All hold causes, in the order of R103. -/
def HoldCause.all : List HoldCause :=
  [.tankFull, .tankOut, .drainBlocked, .supplyLow, .coverOpen, .fanFault, .linkSilent, .roomCold, .sensorLost]

/-- Drying is in defrost step STOP, in which causes are deferred (R104). -/
abbrev State.inStop (s : State) : Prop := s.dry.level = .defrost ∧ s.dry.step = some .stop

/-- The set that raises and clears act on: the deferred set in step STOP, else the hold-cause set (R103, R104). -/
def State.causeSet (s : State) : List HoldCause := if s.inStop then s.dry.deferred else s.dry.holdSet

/-- The causes to raise: they stand and are not in the set. -/
def causesToRaise (s : State) : List HoldCause := HoldCause.all.filter fun c => s.stands c && !decide (c ∈ s.causeSet)

/-- The causes to clear: they are in the set and no longer stand. -/
def causesToClear (s : State) : List HoldCause := HoldCause.all.filter fun c => !s.stands c && decide (c ∈ s.causeSet)

/-- The ceiling: the smallest of the inputs that stand (R40). -/
def State.ceiling (s : State) : Nat :=
  min s.arb.hostCeiling
    (min (if s.supplyLow then s.setup.lowCeiling else s.arb.hostCeiling) (if s.clogged then s.setup.clogCap else s.arb.hostCeiling))

/-- What an AT_LEAST row adds to the grant. -/
def Row.atLeastLevel (r : Row) : Nat := if r.active && decide (r.kind = .atLeast) then r.level else 0

/-- The largest level among the active AT_LEAST rows, or 0 (R42). -/
def State.largestAtLeast (s : State) : Nat :=
  max s.arb.clean.atLeastLevel
    (max s.arb.dry.atLeastLevel (max s.arb.filter.atLeastLevel (max s.arb.service.atLeastLevel s.arb.boost.atLeastLevel)))

/-- The grant, by the first case of R42 that applies. -/
def State.computedGrant (s : State) : Nat :=
  if s.coverOpen then 0
  else if s.arb.service.exact then s.arb.service.level
  else if s.arb.dry.exact then s.arb.dry.level
  else if s.arb.filter.exact then s.arb.filter.level
  else if s.comp.on then max s.setup.dryFloor (min s.largestAtLeast s.ceiling)
  else min s.largestAtLeast s.ceiling

/-- AIRFLOW_SHORT as the inputs give it (R45). -/
def State.shortNow (s : State) : Bool := s.comp.on && decide (s.ceiling < s.setup.dryFloor)

end Sys2Proof.Machine
end

