-- ==== Sys2Proof/Machine/Cleaning.lean ====
section
/-! DEFINITION. The Cleaning Controller: the claimed level and its row, the bands, and what the particulate reading does in AUTO
(R60 to R74). The switching of the sensor's power stands with the channel records. -/

namespace Sys2Proof.Machine

/-- The level the controller claims, none in OFF (R60). -/
def Cleaning.claimed (c : Cleaning) : Option Nat :=
  match c.mode with | .off => none | .manual => c.manualLevel | .auto => c.autoLevel

/-- The CLEAN row is placed when the claimed level has changed (R73). -/
def placeClean (before : Option Nat) (s : State) : State :=
  let now := s.clean.claimed
  if now = before then s
  else match now with
    | none => releaseRow .clean s
    | some n => if n = 0 then releaseRow .clean s else setRow .clean .atLeast n s

/-- A change of the cleaning record, and the row it gives (R73). -/
def changeClean (f : Cleaning → Cleaning) (s : State) : State := placeClean s.clean.claimed (s.setClean (f s.clean))

/-! Bands (R64, R66, R67): numbered from 1. -/

/-- The highest band with a threshold met, counting on from band `k`, with the best so far. -/
def highestBand (met : Band → Bool) : Nat → List Band → Option Nat → Option Nat
  | _, [], best => best
  | k, b :: bs, best => highestBand met (k + 1) bs (if met b then some k else best)

/-- The target band (R66). -/
def targetBand (bands : List Band) (v : Int) : Option Nat := highestBand (fun b => decide ((b.enter : Int) ≤ v)) 1 bands none

/-- The highest band of a list whose exit threshold is at or below the value (R67, R71). -/
def exitBand (bands : List Band) (v : Int) : Option Nat := highestBand (fun b => decide ((b.leave : Int) ≤ v)) 1 bands none

/-- The band of a number. -/
def bandAt (bands : List Band) (k : Nat) : Option Band := match k with | 0 => none | n + 1 => bands[n]?

/-- The level of a band, or of FLOOR (R65). -/
def Setup.levelOf (u : Setup) (band : Option Nat) : Nat :=
  match band with
  | none => u.autoFloor
  | some k => match bandAt u.bands k with | some b => b.level | none => u.autoFloor

/-- The controller takes a band, or FLOOR, and its level; the step-down timer becomes absent. -/
def Cleaning.take (u : Setup) (band : Option Nat) (c : Cleaning) : Cleaning :=
  { c with
    basis := some (match band with | some _ => .band | none => .floor), band := band, autoLevel := some (u.levelOf band),
    stepDown := none }

/-- The step-down timer starts at 0 or runs on. -/
def Cleaning.startStepDown (c : Cleaning) : Cleaning := { c with stepDown := some (c.stepDown.getD 0) }

/-- A change of the qualified value with basis BAND or FLOOR (R66, R67). -/
def Cleaning.follow (u : Setup) (v : Int) (c : Cleaning) : Cleaning :=
  let target := targetBand u.bands v
  if c.basis = some .floor then
    if target.isSome then c.take u target else { c with stepDown := none }
  else if c.band.getD 0 < target.getD 0 then c.take u target
  else match bandAt u.bands (c.band.getD 0) with
    | some b => if v < (b.leave : Int) then c.startStepDown else { c with stepDown := none }
    | none => { c with stepDown := none }

/-- A change of the qualified value with basis CARRIED (R71). -/
def Cleaning.resolve (u : Setup) (v : Int) (c : Cleaning) : Cleaning :=
  let target := targetBand u.bands v
  if c.autoLevel.getD 0 ≤ u.levelOf target then c.take u target else c.startStepDown

/-- PM's qualified value has changed, or PM has become QUALIFIED (R66, R67, R69, R71). -/
def Cleaning.takeValue (u : Setup) (v : Int) (c : Cleaning) : Cleaning :=
  let c := { c with unqualified := none }
  match c.basis with
  | some .band => c.follow u v
  | some .floor => c.follow u v
  | some .carried => c.resolve u v
  | some .fallback => { c with basis := some .carried }.resolve u v
  | none => c

/-- The controller falls back (R69, R70). -/
def Cleaning.fallBack (u : Setup) (c : Cleaning) : Cleaning :=
  { c with basis := some .fallback, autoLevel := some u.cleanFallback, band := none, stepDown := none, unqualified := none }

/-- The level is held while PM re-qualifies (R69). -/
def Cleaning.holdLevel (c : Cleaning) : Cleaning := { c with stepDown := none, unqualified := some 0 }

/-- PM's record has changed, in AUTO (R66 to R71). -/
def Cleaning.react (u : Setup) (old new : Chan) (c : Cleaning) : Cleaning :=
  if c.mode ≠ .auto then c
  else match new.state with
    | .qualified =>
      match new.value with
      | some v => if old.value = some v then c else c.takeValue u v
      | none => c
    | .qualifying => if old.state = .qualified ∧ c.basis ≠ some .fallback then c.holdLevel else c
    | .faulted => if old.state = .faulted ∨ c.basis = some .fallback then c else c.fallBack u
    | .off => if old.state ≠ .off ∧ c.pmPwr = true ∧ c.basis ≠ some .fallback then c.fallBack u else c
    | .warming => c

/-- AUTO is entered, with PM as it stands once PM_PWR is on (R63). -/
def Cleaning.enterAuto (u : Setup) (pm : Option Int) (c : Cleaning) : Cleaning :=
  let c := { c with mode := .auto, manualLevel := none, unqualified := none, stepDown := none }
  match pm with
  | some v => c.take u (targetBand u.bands v)
  | none => c.fallBack u

/-- MANUAL is entered, or its level replaced (R61, R62). -/
def Cleaning.enterManual (level : Nat) (c : Cleaning) : Cleaning :=
  { c with
    mode := .manual, manualLevel := some level, autoLevel := none, basis := none, band := none, stepDown := none, unqualified := none }

/-- OFF is entered, PM_PWR apart (R62). -/
def Cleaning.enterOff (c : Cleaning) : Cleaning :=
  { c with
    mode := .off, manualLevel := none, autoLevel := none, basis := none, band := none, stepDown := none, unqualified := none }

/-! The ticks of the two timers -/

/-- A step-down with basis BAND is due (R67): the hold has run out with PM QUALIFIED. -/
def State.stepDownDue (s : State) : Bool :=
  decide (s.clean.mode = .auto) && decide (s.clean.basis = some .band) && reached s.setup.stepDownHold s.clean.stepDown
    && (s.qual .pm).isSome

/-- A step-down with basis CARRIED is due (R71). -/
def State.carriedDue (s : State) : Bool :=
  decide (s.clean.mode = .auto) && decide (s.clean.basis = some .carried) && reached s.setup.stepDownHold s.clean.stepDown
    && (s.qual .pm).isSome

/-- The unqualified timer has reached 600 s (R69). -/
def State.fallbackDue (s : State) : Bool := decide (s.clean.mode = .auto) && reached 600 s.clean.unqualified

/-- The step-down with basis BAND: the highest band below it whose exit threshold the air meets, or FLOOR (R67). -/
def stepDown (s : State) : State :=
  match s.qual .pm with
  | some v => changeClean (fun c => c.take s.setup (exitBand (s.setup.bands.take (c.band.getD 0 - 1)) v)) s
  | none => s

/-- The step-down with basis CARRIED: the highest band whose exit threshold the air meets, or FLOOR (R71). -/
def carriedStepDown (s : State) : State :=
  match s.qual .pm with
  | some v => changeClean (fun c => c.take s.setup (exitBand s.setup.bands v)) s
  | none => s

/-- The fallback at the end of the 600 s (R69). -/
def cleanFallback (s : State) : State := changeClean (fun c => c.fallBack s.setup) s

/-- What a tick, already counted, makes of the cleaning timers. -/
def cleanTick (s : State) : State :=
  if s.stepDownDue then stepDown s
  else if s.carriedDue then carriedStepDown s
  else if s.fallbackDue then cleanFallback s
  else s

/-! Setup items (R72) -/

/-- BANDS has been replaced. -/
def Cleaning.newBands (u : Setup) (pm : Option Int) (c : Cleaning) : Cleaning :=
  if c.mode ≠ .auto ∨ c.basis = some .fallback then c
  else
    let c := { c with basis := some .carried, band := none, stepDown := none }
    match pm with
    | some v => c.resolve u v
    | none => c

/-- AUTO_FLOOR has been set. -/
def Cleaning.newFloor (u : Setup) (c : Cleaning) : Cleaning :=
  if c.mode = .auto ∧ c.basis = some .floor then { c with autoLevel := some u.autoFloor } else c

/-- CLEAN_FALLBACK has been set (R70). -/
def Cleaning.newFallback (u : Setup) (c : Cleaning) : Cleaning :=
  if c.mode = .auto ∧ c.basis = some .fallback then { c with autoLevel := some u.cleanFallback } else c

end Sys2Proof.Machine
end

