-- ==== Sys2Proof/Machine/Drying.lean ====
section
/-! DEFINITION. The drying cycle at level 0: stopping and starting the compressor, failures, the run-on, idle sampling, the frost and
dry-weak tests, and DRY_MODE's effect on the cycle (R75 to R95). -/

namespace Sys2Proof.Machine

/-- COMP_ON goes off for the given reason: off time and last stop are set, and on time, trip timer and coil frost timer become
absent (R80, R84, R89, R91, R99, R106). -/
def compOff (reason : StopReason) (s : State) : State :=
  (s.setComp { request := false, on := false }).setDry { s.dry with
    offTime := s.time.uptime, offTank := s.qual .tankLvl, lastStop := some ⟨reason, s.time.uptime⟩,
    onTime := none, trip := none, coilFrost := none }

/-- The phase becomes LOCKOUT and the DRY row is released: after a failure, a dropout, or mode OFF in STARTING (R79, R84, R91). -/
def toLockout (s : State) : State := releaseRow .dry (s.setDry { s.dry with phase := .lockout })

/-- Entry to STOPPING: COMP_ON off, the run-on starts at 0, the DRY row stays (R89). -/
def enterStopping (reason : StopReason) (s : State) : State :=
  let s := compOff reason s
  s.setDry { s.dry with phase := .stopping, runOn := some 0 }

/-- The drying controller takes a dropout notice (R91). -/
def takeDropout (s : State) : State :=
  if s.dry.level = .normal ∧ (s.dry.phase = .starting ∨ s.dry.phase = .running) then toLockout (compOff .interlock s) else s

/-- A failure of a start or of a run (R84). The conditions are handed on before the one-shot, lowest id first (R158). A COMPRESSOR
service run ends when disabled is set (R185). -/
def compFailure (reason : FailReason) (s : State) : State :=
  let phase : FailPhase := if s.dry.phase = .running then .running else .starting
  let stop : StopReason := match reason with | .noCurrent => .noCurrent | .overcurrent => .overcurrent
  let s := toLockout (compOff stop s)
  let s := s.setDry { s.dry with
    failures := min 3 (s.dry.failures + 1), lastFailure := some ⟨reason, phase, s.time.uptime⟩,
    disabled := s.dry.disabled || decide (3 ≤ s.dry.failures + 1) }
  let s := oneShot 22 (publish s)
  if s.dry.disabled = true ∧ s.compressorRun = true then endServiceRun s else s

/-! Starting -/

/-- The conditions of a start attempt other than the level, the phase and the waits (R81). -/
abbrev State.mayStart (s : State) : Prop :=
  s.isActive ∧ s.effDemand = true ∧ s.dry.disabled = false ∧ s.dry.holdSet = [] ∧ ¬ s.checkBusy ∧ s.arb.service.active = false

/-- The phase rules act, in IDLE (R80, R96). -/
abbrev State.idleNormal (s : State) : Prop := s.dry.level = .normal ∧ s.dry.phase = .idle

/-- A start attempt begins (R81). -/
abbrev State.attemptDue (s : State) : Prop :=
  s.idleNormal ∧ s.mayStart ∧ s.dry.startWait = none ∧ s.dry.retryWait = none

/-- The fan is RUNNING and at level at a grant of DRY_FLOOR or above (R81). -/
abbrev State.fanReady (s : State) : Prop := s.running ∧ s.fan.atLevel = true ∧ s.setup.dryFloor ≤ s.arb.granted

/-- The start of an attempt: the DRY row, the start wait, and the end of an idle sample (R81). -/
def beginAttempt (s : State) : State :=
  (setRow .dry .atLeast s.setup.dryFloor s).setDry { s.dry with startWait := some 0, sampleTimer := none, idleTimer := none }

/-- The start wait ends with the fan ready: STARTING, and the request for COMP_ON (R82, R90). A request that finds the fan not
running is answered with a dropout (R90, R91). The cycle start is noted (R97). -/
def enterStarting (s : State) : State :=
  let s1 := s.setDry { s.dry with
    startWait := none, phase := .starting, onTime := some 0, currentSeen := false, lastStart := none,
    runStart := s.time.uptime, runTank := s.qual .tankLvl }
  if s.running ∧ s.setup.optCompressor = true then s1.setComp { request := true, on := true } else takeDropout s1

/-- The start wait ends: a condition is lost (R82). -/
def loseAttempt (s : State) : State := releaseRow .dry (s.setDry { s.dry with startWait := none })

/-- The start wait times out (R82). -/
def timeoutAttempt (s : State) : State := releaseRow .dry (s.setDry { s.dry with startWait := none, retryWait := some 0 })

/-- The start is confirmed (R83). -/
def confirmStart (s : State) : State :=
  s.setDry { s.dry with phase := .running, failures := 0, starts := min maxCount32 (s.dry.starts + 1) }

/-- The judgement at the tick that brings on time to 5 (R83): COMP_I's value at that moment, if it is QUALIFIED, is the last start
current. -/
def judgeStart (s : State) : State :=
  let last := match s.qual .compI with | some v => some v | none => s.dry.lastStart
  let s := s.setDry { s.dry with
    lastStart := last,
    currentSeen := s.dry.currentSeen || match s.qual .compI with | some v => decide (80 ≤ v) | none => false }
  match last with
  | none => compFailure .noCurrent s
  | some v => if 600 < v then compFailure .overcurrent s else confirmStart s

/-! Frost and dry-weak tests -/

/-- The run since the last defrost and the room ask for a periodic defrost (R93). -/
def State.periodicFrost (s : State) : Bool :=
  decide (2400 ≤ s.dry.runSince) && match s.qual .roomT with | some v => decide (v < 150) | none => false

/-- The phase rules act, in RUNNING (R80, R96). -/
abbrev State.runningNormal (s : State) : Prop := s.dry.level = .normal ∧ s.dry.phase = .running

/-- The dry-weak watch applies (R94). -/
abbrev State.weakWatch (s : State) : Prop := s.dry.mode ≠ .off ∧ s.setup.optDrain ≠ .gravity

/-- The test for DRY_WEAK (R94): in TARGET, RH's qualified value is above setpoint + 5.0. -/
def State.weakDue (s : State) : Bool :=
  decide s.weakWatch && decide (3600 ≤ s.dry.weak) &&
    match s.dry.mode with
    | .target => match s.qual .rh with | some v => decide ((s.dry.setpoint : Int) * 10 + 50 < v) | none => false
    | _ => true

/-- DRY_WEAK rises when its test is met (R94). -/
def testWeak (s : State) : State := if s.weakDue then s.setDry { s.dry with dryWeak := true } else s

/-- A qualified tank level moves the rise reference, in every mode and drain mode (R94). -/
def followRise (v : Int) (s : State) : State :=
  match s.dry.riseRef with
  | none => s.setDry { s.dry with riseRef := some v }
  | some r =>
    if r + 10 ≤ v then s.setDry { s.dry with weak := 0, riseRef := some v, dryWeak := false }
    else if v < r then s.setDry { s.dry with riseRef := some v }
    else s

/-! Idle sampling -/

/-- The conditions of the idle timer (R92). -/
abbrev State.idleTiming (s : State) : Prop :=
  s.dry.mode = .target ∧ s.idleNormal ∧ s.dry.disabled = false ∧ s.effDemand = false ∧ s.dry.startWait = none
    ∧ s.dry.retryWait = none ∧ s.dry.sampleTimer = none

/-- The idle sample begins (R92). -/
def beginSample (s : State) : State :=
  (setRow .dry .atLeast 2 s).setDry { s.dry with idleTimer := none, sampleTimer := some 0 }

/-- The idle sample ends (R92). The idle timer starts again where its conditions hold, with the rest of the event. -/
def endSample (s : State) : State := releaseRow .dry (s.setDry { s.dry with sampleTimer := none })

/-- The run-on ends (R89). -/
def endRunOn (s : State) : State := releaseRow .dry (s.setDry { s.dry with runOn := none, phase := .lockout })

/-! Mode and demand -/

/-- Mode demand in TARGET, from RH as it stands (R78). -/
def targetDemand (setpoint : Nat) (rh : Option Int) (demand : Bool) : Bool :=
  match rh with
  | none => false
  | some v => if (setpoint : Int) * 10 + 30 ≤ v then true else if v ≤ (setpoint : Int) * 10 - 20 then false else demand

/-- Mode demand after an accepted DRY_MODE (R78). -/
def demandAfter (s : State) (mode : DryMode) (setpoint : Nat) : Bool :=
  match mode with
  | .off => false
  | .continuous => true
  | .target => targetDemand setpoint (s.qual .rh)
      (match s.dry.mode with | .off => false | .target => s.dry.demand | .continuous => true)

/-- The mode and setpoint are stored and mode demand follows; mode OFF ends the dry-weak watch (R77, R78, R94). -/
def storeMode (mode : DryMode) (setpoint : Nat) (s : State) : State :=
  let d := { s.dry with
    mode := mode, setpoint := if mode = .target then setpoint else s.dry.setpoint, demand := demandAfter s mode setpoint }
  if mode = .off then s.setDry { d with dryWeak := false, weak := 0, riseRef := none } else s.setDry d

/-- The context slot that DRY_MODE marks or unmarks at levels 1 and 2 (R110): slot 1 at level 1 and under a DEFROST context, else
slot 2. -/
def markContext (mark : Bool) (s : State) : State :=
  let set := fun (c : Option Context) => c.map fun c => { c with endAfter := mark }
  match s.dry.level with
  | .normal => s
  | .defrost => s.setDry { s.dry with slot1 := set s.dry.slot1 }
  | .hold =>
    if s.defrostCondition then s.setDry { s.dry with slot1 := set s.dry.slot1 }
    else s.setDry { s.dry with slot2 := set s.dry.slot2 }

/-- What DRY_MODE OFF does to the cycle at level 0 with no effective demand left (R79). -/
def modeOffCycle (s : State) : State :=
  match s.dry.phase with
  | .idle =>
    if s.dry.startWait.isSome ∨ s.dry.sampleTimer.isSome then
      releaseRow .dry (s.setDry { s.dry with startWait := none, retryWait := none, sampleTimer := none, idleTimer := none })
    else s.setDry { s.dry with retryWait := none, idleTimer := none }
  | .starting => toLockout (compOff .modeOff s)
  | .running => enterStopping .modeOff s
  | .stopping => s
  | .lockout => s

/-- What DRY_MODE TARGET does to the cycle at level 0 when it has made demand false (R79); the loss in RUNNING is R86's. -/
def targetLossCycle (s : State) : State :=
  if s.dry.phase = .idle then
    if s.dry.startWait.isSome then releaseRow .dry (s.setDry { s.dry with startWait := none, retryWait := none })
    else s.setDry { s.dry with retryWait := none }
  else s

/-- An accepted DRY_MODE (R77, R78, R79, R110). A request for OFF in OFF, or for CONTINUOUS in CONTINUOUS, changes nothing (R77) but the
mark of the waiting context at levels 1 and 2, which R110 gives for every accepted request (DEDUCED: log entry 25). -/
def applyDryMode (mode : DryMode) (setpoint : Nat) (s : State) : State :=
  if mode = s.dry.mode ∧ mode ≠ .target then markContext (decide (mode = .off)) s
  else
    let had := s.dry.demand
    let s := storeMode mode setpoint s
    match s.dry.level with
    | .normal =>
      if s.effDemand then s
      else if mode = .off then modeOffCycle s
      else if had then targetLossCycle s
      else s
    | .defrost => markContext (decide (mode = .off)) s
    | .hold => markContext (decide (mode = .off)) s

/-- FAULT_CLEAR of the compressor (R85). -/
def clearCompressor (s : State) : State := s.setDry { s.dry with failures := 0, disabled := false }

end Sys2Proof.Machine
end

