-- ==== Sys2Proof/Machine/Defrost.lean ====
section
/-! DEFINITION. Defrosts, holds and suspended cycles: the context slots, the defrost steps, the hold-cause set and the deferred-cause
set (R96 to R113). -/

namespace Sys2Proof.Machine

/-- The IDLE context of the record as it stands; its cycle start is its off time (R97). -/
def idleContext (d : Drying) : Context :=
  { kind := .idle, phase := none, offTime := d.offTime, runSince := d.runSince, cycleStart := d.offTime, cycleTank := d.offTank,
    step := none, melt := none, endAfter := false }

/-- The RUN context of the record as it stands, suspended in the given phase (R97). -/
def runContext (phase : RunPhase) (d : Drying) : Context :=
  { kind := .run, phase := some phase, offTime := d.offTime, runSince := d.runSince, cycleStart := d.runStart, cycleTank := d.runTank,
    step := none, melt := none, endAfter := false }

/-- The DEFROST context of the record as it stands (R97, R107). -/
def defrostContext (d : Drying) : Context :=
  { kind := .defrost, phase := none, offTime := d.offTime, runSince := d.runSince, cycleStart := d.defrostStart,
    cycleTank := d.defrostTank, step := some .melt, melt := some (d.melt.getD 900), endAfter := false }

/-- The context that a hold saves, for the phase at that moment (R106). -/
def contextFor (phase : Phase) (d : Drying) : Context :=
  match phase with
  | .idle => idleContext d
  | .lockout => idleContext d
  | .starting => runContext .starting d
  | .running => runContext .running d
  | .stopping => runContext .stopping d

/-- A hold is entered from level 0 (R106). -/
def holdFromNormal (s : State) : State :=
  let phase := s.dry.phase
  let s := if phase = .starting ∨ phase = .running then compOff .hold s else s
  releaseRow .dry (s.setDry { s.dry with
    slot2 := some (contextFor phase s.dry), level := .hold, phase := .lockout, startWait := none, retryWait := none,
    idleTimer := none, sampleTimer := none, runOn := none })

/-- A hold is entered from level 1 in step MELT (R107). -/
def holdFromMelt (s : State) : State :=
  releaseClaim .dry (releaseRow .dry (s.setDry { s.dry with
    slot2 := some (defrostContext s.dry), level := .hold, step := none, melt := none, warm := none }))

/-- The hold-cause set has become non-empty. -/
def enterHold (s : State) : State := if s.dry.level = .defrost then holdFromMelt s else holdFromNormal s

/-- The stop reason MODE_OFF, with its time kept, if the context is marked end-after (R102, R109). -/
def markedStop (endAfter : Bool) (last : Option Stop) : Option Stop :=
  if endAfter then last.map fun l => { l with reason := .modeOff } else last

/-- The hold-cause set has become empty at level 2: slot 2 is restored and emptied (R109). -/
def endHold (s : State) : State :=
  match s.dry.slot2 with
  | none => s.setDry { s.dry with level := .normal, phase := .lockout }
  | some c =>
    match c.kind with
    | .idle =>
      let d := { s.dry with slot2 := none, level := .normal, offTime := c.offTime, runSince := c.runSince }
      s.setDry { d with phase := if d.disabled = false ∧ c.offTime + 181 ≤ s.time.uptime then .idle else .lockout }
    | .run =>
      s.setDry { s.dry with
        slot2 := none, level := .normal, phase := .lockout, offTime := c.offTime, runSince := c.runSince,
        lastStop := markedStop c.endAfter s.dry.lastStop }
    | .defrost =>
      takeClaim .dry .coilT (setRow .dry .exactly s.setup.defrostLevel (s.setDry { s.dry with
        slot2 := none, level := .defrost, step := some .melt, stepTimer := none, melt := some (c.melt.getD 900), warm := none,
        offTime := c.offTime, runSince := c.runSince }))

/-- A hold cause is raised by its owner (R103, R104, R106, R107). -/
def raiseCause (c : HoldCause) (s : State) : State :=
  if s.inStop then s.setDry { s.dry with deferred := insertCause c s.dry.deferred }
  else if s.dry.holdSet = [] then enterHold (s.setDry { s.dry with holdSet := [c] })
  else s.setDry { s.dry with holdSet := insertCause c s.dry.holdSet }

/-- A hold cause is cleared by its owner (R103, R104, R109). -/
def clearCause (c : HoldCause) (s : State) : State :=
  if s.inStop then s.setDry { s.dry with deferred := eraseCause c s.dry.deferred }
  else
    let s1 := s.setDry { s.dry with holdSet := eraseCause c s.dry.holdSet }
    if c ∈ s.dry.holdSet ∧ eraseCause c s.dry.holdSet = [] ∧ s.dry.level = .hold then endHold s1 else s1

/-! Defrost -/

/-- A defrost is entered from RUNNING at level 0 (R99). -/
def enterDefrost (s : State) : State :=
  let ctx := { runContext .running s.dry with offTime := s.time.uptime }
  let s := compOff .defrost s
  takeClaim .dry .coilT (setRow .dry .exactly s.setup.defrostLevel (s.setDry { s.dry with
    slot1 := some ctx, phase := .lockout, level := .defrost, step := some .stop, stepTimer := some 0, melt := none, warm := none,
    defrostCount := min 65534 (s.dry.defrostCount + 1), lastDefrost := some ⟨s.time.uptime, none⟩,
    defrostStart := s.time.uptime, defrostTank := s.qual .tankLvl }))

/-- Step STOP ends: the deferred causes move, and MELT begins or is held at once (R100, R105). -/
def endStop (s : State) : State :=
  let s := s.setDry { s.dry with
    holdSet := s.dry.deferred, deferred := [], step := some .melt, stepTimer := none, melt := some 900, warm := none }
  if s.dry.holdSet = [] then s else enterHold s

/-- The record of a defrost that ends now (R102). -/
def lastDefrostEnded (reason : DefrostReason) (s : State) : Option LastDefrost :=
  s.dry.lastDefrost.map fun l => { l with ended := some ⟨s.time.uptime, reason, 900 - s.dry.melt.getD 0⟩ }

/-- The off time and the end-after flag that slot 1 restores (R102). -/
def Drying.slot1Off (d : Drying) : Nat := match d.slot1 with | some c => c.offTime | none => d.offTime

def Drying.slot1Marked (d : Drying) : Bool := match d.slot1 with | some c => c.endAfter | none => false

/-- The defrost ends and slot 1 is restored (R102). DEFROST falls before DEFROST_END is latched, lowest id first (R158). -/
def endDefrost (reason : DefrostReason) (s : State) : State :=
  let s := s.setDry { s.dry with
    lastDefrost := lastDefrostEnded reason s, slot1 := none, level := .normal, phase := .lockout, offTime := s.dry.slot1Off,
    runSince := 0, step := none, stepTimer := none, melt := none, warm := none,
    lastStop := markedStop s.dry.slot1Marked s.dry.lastStop }
  oneShot 23 (publish (releaseRow .dry (releaseClaim .dry s)))

/-- Step STOP is over: the compressor current has died away, or the step has lasted 5 s (R100). -/
def State.stopOver (s : State) : Bool :=
  reached 5 s.dry.stepTimer || match s.qual .compI with | some v => decide (v < 30) | none => false

/-- Drying is in step MELT at level 1 (R101). -/
abbrev State.inMelt (s : State) : Prop := s.dry.level = .defrost ∧ s.dry.step = some .melt

/-- The melt is over: the coil has been warm for 30 s, or melt remaining is 0 (R101). -/
def State.meltOver (s : State) : Bool := reached 30 s.dry.warm || decide (s.dry.melt = some 0)

/-- NORMAL wins when both ends fall together (R101). -/
def State.meltReason (s : State) : DefrostReason := if reached 30 s.dry.warm then .normal else .timeout

end Sys2Proof.Machine
end

