-- ==== Sys2Proof/Machine/Filters.lean ====
section
/-! DEFINITION. Filter Accounts: wear, the charge of a second of air, fitting and removing, and the pressure check (R131 to R148). -/

namespace Sys2Proof.Machine

/-! Wear (R133) -/

/-- The accumulated amount of the rating kind, and the rated amount in the same unit (R133). -/
def SlotRec.used (r : SlotRec) : Nat :=
  match r.ratingKind with | .load => r.load | .volume => r.volume | .hours => r.runSecs

def SlotRec.ratedUnits (r : SlotRec) : Nat :=
  match r.ratingKind with | .load => r.rated * 1000 | .volume => r.rated * 100 | .hours => r.rated * 3600

def RatingKind.reason : RatingKind → WornReason
  | .load => .load | .volume => .volume | .hours => .hours

/-- The rise of the drop over the baseline, when both are present. -/
def SlotRec.rise (r : SlotRec) : Option Int :=
  match r.baseline, r.latest with
  | some b, some l => some (l - b)
  | _, _ => none

/-- The rise is at or above `k` times the rise limit; the pressure tests belong to the pressure slot (R133). -/
def SlotRec.riseReaches (isPressure : Bool) (k : Nat) (r : SlotRec) : Bool :=
  isPressure && match r.rise with | some d => decide (((k * r.riseLimit : Nat) : Int) ≤ d) | none => false

/-- Where a state stands in the order FITTED, NEAR_WORN, WORN, CLOGGED. -/
def SlotState.rank : SlotState → Nat
  | .empty => 0 | .fitted => 1 | .nearWorn => 2 | .worn => 3 | .clogged => 4

/-- The highest wear any test reaches (R133). -/
def SlotRec.wearReached (isPressure : Bool) (r : SlotRec) : SlotState :=
  if r.riseReaches isPressure 2 then .clogged
  else if r.ratedUnits ≤ r.used ∨ r.riseReaches isPressure 1 = true then .worn
  else if 9 * r.ratedUnits ≤ 10 * r.used then .nearWorn
  else .fitted

/-- The worn reason when the wear rises to `wear` (R133): the rating kind before PRESSURE at WORN, PRESSURE at CLOGGED. -/
def SlotRec.reasonFor (wear : SlotState) (r : SlotRec) : Option WornReason :=
  match wear with
  | .clogged => some .pressure
  | .worn => if r.ratedUnits ≤ r.used then some r.ratingKind.reason else some .pressure
  | _ => r.wornReason

/-- Wear is evaluated for a slot: a fitted slot takes a higher state, never a lower one (R133). -/
def SlotRec.evaluate (isPressure : Bool) (r : SlotRec) : SlotRec :=
  let wear := r.wearReached isPressure
  if r.state ≠ .empty ∧ r.state.rank < wear.rank then { r with state := wear, wornReason := r.reasonFor wear } else r

/-! The charge of one second of air (R135, R136) -/

/-- Parts of a µg in the load remainder: 3600 s/h × 100 % × 10,000 for the two concentrations passed on. -/
def loadParts : Nat := 3600000000

/-- One second of air at a nominal flow, with an incoming concentration of `conc` / 10,000 µg/m³, charged to a fitted slot. All
three accounts saturate. -/
def SlotRec.charge (flow conc : Nat) (r : SlotRec) : SlotRec :=
  let parts := r.loadRem + flow * conc * r.capture
  let vols := r.volumeRem + flow
  { r with
    load := min maxCount32 (r.load + parts / loadParts), loadRem := parts % loadParts,
    volume := min maxCount32 (r.volume + vols / 36), volumeRem := vols % 36,
    runSecs := min maxCount32 (r.runSecs + 1) }

/-- A slot visited by the charge: an EMPTY slot is passed by; a fitted one is charged and its wear evaluated. -/
def SlotRec.visit (isPressure : Bool) (flow conc : Nat) (r : SlotRec) : SlotRec :=
  if r.state = .empty then r else (r.charge flow conc).evaluate isPressure

/-- The concentration behind a slot: C − C × capture / 100 behind a fitted one (R135). -/
def SlotRec.behind (conc : Nat) (r : SlotRec) : Nat := if r.state = .empty then conc else conc * (100 - r.capture) / 100

/-- The three slots charged in the order PRE, FINE, CARBON. -/
def chargeSlots (pressure : Slot) (flow conc : Nat) (p : PerSlot SlotRec) : PerSlot SlotRec :=
  let c1 := p.pre.behind conc
  let c2 := p.fine.behind c1
  { pre := p.pre.visit (decide (pressure = .pre)) flow conc, fine := p.fine.visit (decide (pressure = .fine)) flow c1,
    carbon := p.carbon.visit (decide (pressure = .carbon)) flow c2 }

/-- The incoming concentration in 1/10,000 µg/m³: PM's qualified value, or DEFAULT_PM (R135). -/
def State.concentration (s : State) : Nat :=
  10000 * match s.qual .pm with | some v => v.toNat | none => s.setup.defaultPm

/-- A check becomes due from IDLE on the interval (R142). -/
def testInterval (s : State) : State :=
  let c := s.filt.check
  if s.isActive ∧ c.state = .idle ∧ s.setup.checkInterval ≤ c.runCount then
    s.setCheck { c with state := .due, dueCause := some .interval }
  else s

/-- A second charged to the pressure slot counts toward the next check (R136, R142). The count saturates (log entry 46). -/
def countCheckSecond (s : State) : State :=
  if (s.slot s.setup.pressureSlot).state = .empty then s
  else testInterval (s.setCheck { s.filt.check with runCount := min maxCount32 (s.filt.check.runCount + 1) })

/-- The Fan Drive hands over one second of nominal flow (R57), and it is charged while the part is ACTIVE (R135). -/
def chargeAir (flow : Nat) (s : State) : State :=
  if s.isActive then
    countCheckSecond (s.setFilt { s.filt with slots := chargeSlots s.setup.pressureSlot flow s.concentration s.filt.slots })
  else s

/-! The pressure check (R142 to R147) -/

/-- The state after an end: IDLE after DONE and REMOVED, else DUE with the retry wait at 0 (R147). -/
def CheckResult.closes : CheckResult → Bool
  | .done => true | .removed => true | .failedNoLevel => false | .failedNoReading => false | .preempted => false
  | .abortedReset => true

/-- A check in WAITING or SAMPLING ends (R147). Wear conditions are handed on before CHECK_END, lowest id first (R158). With IDLE the due
cause becomes absent (log entry 42). -/
def endCheck (result : CheckResult) (s : State) : State :=
  let c := s.filt.check
  let s := releaseClaim .filter (releaseRow .filter s)
  let s := s.setCheck { c with
    state := if result.closes then .idle else .due, dueCause := if result.closes then none else c.dueCause,
    requested := if result.closes then false else c.requested, retry := if result.closes then none else some 0,
    timer := none, samples := 0, sum := 0, lastResult := some result, lastEnded := some s.time.uptime }
  oneShot 25 (publish s)

/-- The check-preempted notice (R147): not acted on unless the check is WAITING or SAMPLING. -/
def preemptCheck (s : State) : State := if s.checkBusy then endCheck .preempted s else s

/-- The start conditions of a due check (R144). -/
abbrev State.checkMayStart (s : State) : Prop :=
  s.isActive ∧ s.filt.check.state = .due ∧ (s.slot s.setup.pressureSlot).state ≠ .empty ∧ s.filt.check.retry = none ∧ ¬ s.coverOpen
    ∧ s.comp.on = false ∧ s.dry.phase ≠ .starting ∧ s.arb.service.active = false ∧ s.arb.dry.exact = false
    ∧ (s.chan .filterDp).state ≠ .faulted ∧ (s.setup.refLevel ≤ s.ceiling ∨ s.filt.check.requested = true)

/-- Entry to WAITING (R144). -/
def startCheck (s : State) : State :=
  let s := takeClaim .filter .filterDp (setRow .filter .exactly s.setup.refLevel s)
  s.setCheck { s.filt.check with state := .waiting, timer := some 0, samples := 0, sum := 0 }

/-- The fan is RUNNING and at level and FILTER_DP is QUALIFIED (R145). -/
abbrev State.checkReady (s : State) : Prop := s.running ∧ s.fan.atLevel = true ∧ (s.chan .filterDp).state = .qualified

/-- The result of a check whose minute is out (R145). -/
def State.checkFailure (s : State) : CheckResult :=
  if s.running ∧ s.fan.atLevel = true then .failedNoReading else .failedNoLevel

/-- The minute of a check in WAITING is out (R145). -/
abbrev State.checkMinuteOut (s : State) : Prop :=
  s.filt.check.state = .waiting ∧ ¬ s.checkReady ∧ reached 60 s.filt.check.timer = true

/-- A counted sample (R146); the eighth completes the check. -/
def countSample (v : Int) (s : State) : State :=
  let c := s.filt.check
  let sum := c.sum + v
  if c.samples + 1 < 8 then s.setCheck { c with samples := c.samples + 1, sum := sum }
  else
    let mean := roundDiv sum 8
    let p := s.setup.pressureSlot
    let r := s.slot p
    let r := { r with latest := some mean, baseline := match r.baseline with | some b => some b | none => some mean }
    let s := s.setSlot p (r.evaluate true)
    endCheck .done (s.setCheck { s.filt.check with runCount := 0 })

/-- A new filter in the pressure slot: the count restarts, and a check becomes due for a fit without a baseline (R139, R142). -/
def fitCheck (restored : Bool) (s : State) : State :=
  let c := { s.filt.check with runCount := 0 }
  if restored then s.setCheck c
  else if c.state = .idle then s.setCheck { c with state := .due, dueCause := some .fit }
  else if c.state = .due then s.setCheck { c with retry := none, dueCause := some .fit }
  else s.setCheck c

/-- The pressure slot is removed (R140). With IDLE the due cause becomes absent (log entry 42). -/
def removeCheck (s : State) : State :=
  let s := s.setCheck { s.filt.check with runCount := 0 }
  if s.checkBusy then endCheck .removed s
  else if s.filt.check.state = .due then
    s.setCheck { s.filt.check with state := .idle, dueCause := none, retry := none, requested := false }
  else s

/-- A due check starts where its start conditions hold (R144). -/
def testCheckStart (s : State) : State := if s.checkMayStart then startCheck s else s

/-- An accepted FILTER_CHECK: the check is due and requested, and the start conditions are tested at once (R143). -/
def requestCheck (s : State) : State :=
  let c := s.filt.check
  testCheckStart (s.setCheck (
    if c.state = .idle then { c with state := .due, dueCause := some .host, requested := true }
    else { c with requested := true, retry := none }))

/-- A cover-opened notice: the flag of all three records is set (R137). -/
def setCoverFlags (s : State) : State :=
  let p := s.filt.slots
  s.setFilt { s.filt with slots :=
    { pre := { p.pre with coverOpened := true }, fine := { p.fine with coverOpened := true },
      carbon := { p.carbon with coverOpened := true } } }

/-- A soft reset abandons the check, with no CHECK_END (R148). The due cause goes with it (log entry 42). -/
def softResetCheck (s : State) : State :=
  let c := s.filt.check
  s.setCheck { c with
    state := .idle, dueCause := none, requested := false, retry := none, timer := none, samples := 0, sum := 0,
    lastResult := if s.checkBusy then some .abortedReset else c.lastResult,
    lastEnded := if s.checkBusy then some s.time.uptime else c.lastEnded }

/-- Then, whatever its state was, the check becomes DUE for a fit if the pressure slot is fitted without a baseline (R148). -/
def softResetDue (s : State) : State :=
  let r := s.slot s.setup.pressureSlot
  if r.state ≠ .empty ∧ r.baseline = none then s.setCheck { s.filt.check with state := .due, dueCause := some .fit } else s

end Sys2Proof.Machine
end

