-- ==== Sys2Proof/Machine/Airflow.lean ====
section
/-! DEFINITION. The Airflow Arbiter and the Fan Drive: the abort of the FILTER row, the grant and what the fan does with it, stalls,
measurement, the fault latch, the boost, and the compressor interlock (R38 to R59, R90, R91). -/

namespace Sys2Proof.Machine

/-! The Fan Drive -/

/-- The drive leaves RUNNING for `state`: measured speed absent, at level clear, settle count 0 (R50, R52, R53). -/
def Fan.stopped (state : FanState) (f : Fan) : Fan :=
  { f with state := state, measured := none, atLevel := false, settleCount := 0, discard := false, edge := false, periods := 0,
           periodSum := 0 }

/-- SPINNING_UP with FAN_PWM on and the state timer 0 (R50, R54). -/
def Fan.spinUp (f : Fan) : Fan := { (f.stopped .spinningUp) with timer := 0 }

/-- What a change of the granted level to one with the given target speed does to the drive (R50, R55). -/
def Fan.takeGrant (level target : Nat) (coverOpen : Bool) (f : Fan) : Fan :=
  let f := { f with target := target }
  match f.state with
  | .off => if level = 0 ∨ f.fault = true then f else f.spinUp
  | .spinningUp => if level = 0 then f.stopped .off else f
  | .running => if level = 0 then f.stopped .off else { f with atLevel := false, settleCount := 0 }
  | .stalled => if level = 0 then f.stopped .off else f
  | .fault => if coverOpen then f.stopped .off else f

/-- A cover change with the fault latch set: OFF while the cover is open, FAULT when it closes (R55). -/
def Fan.takeCover (coverOpen : Bool) (f : Fan) : Fan :=
  if f.fault then f.stopped (if coverOpen then .off else .fault) else f

/-- A stall: STALLED, or FAULT with the latch set at the third (R53, R55). R53 says of STALLED alone that the measured speed is absent and
the state timer 0; the drive enters FAULT in the same way (DESIGN CHOICE: log entry 48). -/
def Fan.stall (f : Fan) : Fan :=
  let n := min 3 (f.stalls + 1)
  if n < 3 then { (f.stopped .stalled) with stalls := n, timer := 0 }
  else { (f.stopped .fault) with stalls := n, fault := true, timer := 0 }

/-- The tick that brings the state timer to 3 with no first edge, or to 2 without any edge, is a stall (R50, R51, R53). -/
def Fan.stallDue (f : Fan) : Bool :=
  match f.state with
  | .spinningUp => decide (3 ≤ f.timer)
  | .running => decide (2 ≤ f.timer)
  | _ => false

/-- The retry wait in STALLED is over (R54). -/
def Fan.retryDue (f : Fan) : Bool := decide (f.state = .stalled) && decide (10 ≤ f.timer)

/-- A retry (R54). -/
def Fan.retry (granted : Nat) (f : Fan) : Fan := if granted = 0 then f.stopped .off else f.spinUp

/-- The speed of `n` periods of `sum` nanoseconds in all: 30 divided by their mean in seconds, to the nearest rpm (R51). -/
def meanRpm (n sum : Nat) : Nat :=
  let num := 30000000000 * n
  let q := num / sum
  let r := num % sum
  if 2 * r < sum then q else if sum < 2 * r then q + 1 else if Config.rpmTieUp n sum then q + 1 else q

/-- From 92 % to 108 % of the target, both ends included (R52). -/
def inBand (target speed : Nat) : Bool := decide (92 * target ≤ 100 * speed) && decide (100 * speed ≤ 108 * target)

/-- A measurement and its at-level test (R51, R52). -/
def Fan.measure (f : Fan) : Fan :=
  if f.periods = 0 ∨ f.periodSum = 0 then f
  else
    let v := meanRpm f.periods f.periodSum
    if inBand f.target v then
      let n := min 2 (f.settleCount + 1)
      { f with measured := some v, settleCount := n, atLevel := f.atLevel || decide (n = 2) }
    else { f with measured := some v, settleCount := 0 }

/-- A rising edge of FAN_TACH (R50, R51): from SPINNING_UP to RUNNING; in RUNNING a period, but the first is discarded. The state timer,
which counts the ticks without an edge in RUNNING, starts at 0 (R49, R53; DEDUCED: log entry 47). -/
def Fan.takeEdge (period : Nat) (f : Fan) : Fan :=
  match f.state with
  | .spinningUp =>
    { f with state := .running, timer := 0, runTime := 0, measured := none, atLevel := false, settleCount := 0, discard := true, edge := true,
             periods := 0, periodSum := 0 }
  | .running =>
    if f.discard = true ∨ period = 0 then { f with discard := false, edge := true }
    else { f with edge := true, periods := f.periods + 1, periodSum := f.periodSum + period }
  | _ => f

/-- What a second counts in the drive: the state timer, and the running time (R50, R51, R54). -/
def Fan.advance (f : Fan) : Fan :=
  match f.state with
  | .spinningUp => { f with timer := f.timer + 1 }
  | .running => { f with timer := if f.edge then 0 else f.timer + 1, runTime := f.runTime + 1 }
  | .stalled => { f with timer := f.timer + 1 }
  | _ => f

/-- A new second begins for the tachometer. -/
def Fan.newSecond (f : Fan) : Fan := { f with edge := false, periods := 0, periodSum := 0 }

/-- The running time has just reached 300 s (R51). -/
def Fan.stallsExpire (f : Fan) : Bool := decide (f.state = .running) && decide (f.runTime = 300)

/-! The Arbiter and the interlock -/

/-- The FILTER row meets an event that makes the check impossible (R44). -/
abbrev State.filterBlocked (s : State) : Prop :=
  s.arb.filter.active = true ∧ (s.arb.service.active = true ∨ s.arb.dry.exact = true ∨ s.coverOpen)

/-- The abort of the FILTER row, with its notice (R44). -/
def abortFilter (s : State) : State := if s.filterBlocked then preemptCheck (releaseRow .filter s) else s

/-- The grant is computed, and a change is taken by the Fan Drive in the same event (R43, R50). -/
def updateGrant (s : State) : State :=
  let g := s.computedGrant
  if g = s.arb.granted then s
  else
    (s.setArb { s.arb with granted := g }).setFan
      (s.fan.takeGrant g (s.levelEntry g).speed s.water.cover.filtered)

/-- COMP_ON goes off at once when the running signal is false, and the dropout notice is sent (R58, R90, R91). -/
def interlock (s : State) : State :=
  if s.comp.on = true ∧ ¬ s.running then takeDropout (s.setComp { request := false, on := false }) else s

/-- AIRFLOW_SHORT is evaluated; drying takes a rise at once (R45, R88). -/
def updateShort (s : State) : State :=
  let v := s.shortNow
  if v = s.arb.airflowShort then s
  else
    let s := publish (s.setArb { s.arb with airflowShort := v })
    if v = true ∧ s.dry.level = .normal ∧ (s.dry.phase = .starting ∨ s.dry.phase = .running) then enterStopping .airflowShort s else s

/-- Everything the Arbiter, the Fan Drive and the Compressor Drive do with a change. -/
def airflow (s : State) : State := updateShort (interlock (updateGrant (abortFilter s)))

/-- The airflow side has something to do. -/
abbrev State.airPending (s : State) : Prop :=
  s.filterBlocked ∨ s.computedGrant ≠ s.arb.granted ∨ (s.comp.on = true ∧ ¬ s.running) ∨ s.shortNow ≠ s.arb.airflowShort

/-- The boost expires (R47). -/
def expireBoost (s : State) : State :=
  let s := releaseRow .boost s
  s.setArb { s.arb with boostRemaining := none }

/-- FAULT_CLEAR of the fan (R56). -/
def clearFan (s : State) : State :=
  let f := { s.fan with stalls := 0 }
  if f.fault then
    let f := { (f.stopped .off) with fault := false }
    s.setFan (if 0 < s.arb.granted ∧ ¬ s.coverOpen then f.spinUp else f)
  else s.setFan f

/-- The volume of one second is handed over when the drive is RUNNING after the tick's stall test (R57). -/
def handOverVolume (s : State) : State :=
  if s.running then chargeAir (s.levelEntry s.arb.granted).flow s else s

/-- The Fan Drive's part of a tick, its counts already advanced: measurement, stall test or retry, the stall count's expiry, and the
volume (R51, R53, R54, R57). A tick that is a stall does not let the stalls expire (log entry 41). -/
def fanTick (s : State) : State :=
  let f := if s.fan.state = .running then s.fan.measure else s.fan
  let f := f.newSecond
  if f.stallDue then s.setFan f.stall
  else if f.retryDue then s.setFan (f.retry s.arb.granted)
  else handOverVolume (s.setFan (if f.stallsExpire then { f with stalls := 0 } else f))

end Sys2Proof.Machine
end

