-- ==== Sys2Proof/Machine/Operands.lean ====
section
/-! DEFINITION. The forms operands take: little-endian fields of replies and of request payloads (R181), the check of a frame (R168),
and the fixed table of the channels (R1, R18). -/

namespace Sys2Proof.Machine

/-! Fields on the link (R181) -/

/-- The low byte of a number. -/
def byteOf (n : Nat) : Byte := BitVec.ofNat 8 n

/-- `k` bytes, little-endian. -/
def leBytes : Nat → Nat → List Byte
  | 0, _ => []
  | k + 1, n => byteOf n :: leBytes k (n / 256)

/-- The number that little-endian bytes spell. -/
def leValue : List Byte → Nat
  | [] => 0
  | b :: bs => b.toNat + 256 * leValue bs

/-- An unsigned field of `k` bytes. What a number too large for its field reads as is free (log entry 4). -/
def field (k n : Nat) : List Byte := if n < 256 ^ k then leBytes k n else leBytes k (Config.wideField k n)

/-- An unsigned field that may be absent: all ones means absent. -/
def fieldOpt (k : Nat) : Option Nat → List Byte
  | some n => field k n
  | none => List.replicate k 255#8

/-- A signed 16-bit count. -/
def signedField (v : Int) : List Byte := leBytes 2 (v % 65536).toNat

/-- A value in a channel's unit: a signed 16-bit count, with 0x8000 for absent. -/
def valueField : Option Int → List Byte
  | some v => signedField v
  | none => [0#8, 128#8]

/-- A two-valued field. -/
def flagField (b : Bool) : List Byte := [if b then 1#8 else 0#8]

/-- The signed 16-bit number of a 2-byte payload field. -/
def signedValue (bs : List Byte) : Int := if leValue bs < 32768 then (leValue bs : Int) else (leValue bs : Int) - 65536

/-- A bit mask: bit n stands for the member in position n. -/
def maskOf : List Bool → Nat
  | [] => 0
  | b :: bs => (if b then 1 else 0) + 2 * maskOf bs

/-! The check (R168) -/

/-- One shift of the check register. -/
def crcShift (r : Byte) : Byte := if r.msb then (r <<< 1) ^^^ 7#8 else r <<< 1

/-- One byte combined into the check register. -/
def crcByte (r b : Byte) : Byte :=
  crcShift (crcShift (crcShift (crcShift (crcShift (crcShift (crcShift (crcShift (r ^^^ b))))))))

/-- The CRC-8 of KIND, LEN and payload (R168). -/
def crc8 (bs : List Byte) : Byte := bs.foldl crcByte 0#8

/-- A whole frame: SYNC, KIND, LEN, payload, CHECK (R167). -/
def frameOf (kind : Byte) (payload : List Byte) : List Byte :=
  let body := kind :: byteOf payload.length :: payload
  195#8 :: (body ++ [crc8 body])

/-! The channels (R1, R18) -/

/-- What is fixed in the part for a channel, in steps of its resolution. -/
structure Scale where
  low : Int
  high : Int
  validLow : Int
  validHigh : Int
  stepLimit : Nat
  deriving DecidableEq, Repr

/-- R1 (spans and valid ranges) and R18 (step limits). -/
def Channel.scale : Channel → Scale
  | .rh => ⟨-100, 1100, 0, 1000, 30⟩
  | .roomT => ⟨-400, 700, -200, 500, 10⟩
  | .coilT => ⟨-400, 500, -300, 400, 20⟩
  | .tankLvl => ⟨-100, 1100, 0, 1000, 50⟩
  | .filterDp => ⟨-500, 6500, 0, 6000, 200⟩
  | .pm => ⟨-50, 1200, 0, 1000, 200⟩
  | .supply => ⟨-300, 3300, 0, 3000, 100⟩
  | .compI => ⟨-100, 1200, 0, 1000, 400⟩

/-- The scaled value of a raw code: straight-line interpolation, to the nearest step, halves away from zero (R1). -/
def Channel.scaled (c : Channel) (raw : Nat) : Int :=
  roundDiv (c.scale.low * 4095 + (raw : Int) * (c.scale.high - c.scale.low)) 4095

/-- Inside the valid range, end points included (R1, R22). -/
def Channel.inRange (c : Channel) (v : Int) : Bool := decide (c.scale.validLow ≤ v) && decide (v ≤ c.scale.validHigh)

/-- Inside the span from the value at code 0 to the value at code 4095 (R187). -/
def Channel.inSpan (c : Channel) (v : Int) : Bool := decide (c.scale.low ≤ v) && decide (v ≤ c.scale.high)

end Sys2Proof.Machine
end

