-- ==== Sys2Proof/Machine/Water.lean ====
section
/-! DEFINITION. The Water Controller: the tank state, the drain, the held level and the totals, and the pump run (R114 to R130). -/

namespace Sys2Proof.Machine

/-- 65,535, at which the 16-bit counts saturate. -/
def maxCount16 : Nat := 65535

/-! The tank (R118 to R120) -/

/-- The table of R118: the first line that applies. -/
def State.tankTable (s : State) : TankState :=
  if s.water.tankIn.filtered = false then .out
  else if s.water.float.filtered = true then .full
  else match s.qual .tankLvl with
    | some v => if 950 ≤ v then .full else if 800 ≤ v then .nearFull else .normal
    | none => .normal

/-- The tank state under the drain mode, without what R119 holds (R118, R120). -/
def State.tankFresh (s : State) : TankState :=
  match s.setup.optDrain with
  | .gravity => if s.water.tankIn.filtered then .normal else .out
  | .bucket => s.tankTable
  | .pump => s.tankTable

/-- FULL is held while the tank is present, in BUCKET mode and in PUMP mode with the fault latch set (R119). -/
def State.tankHeld (s : State) : Bool :=
  s.water.tankIn.filtered && decide (s.water.tank = .full)
    && (decide (s.setup.optDrain = .bucket) || (decide (s.setup.optDrain = .pump) && s.water.fault))

/-- The tank state is evaluated (R118, R119, R120). -/
def tankSync (s : State) : State :=
  s.setWater { s.water with tank := if s.tankHeld then .full else s.tankFresh }

/-- DRAIN_BLOCKED and its clear timer follow the inputs (R115, R120). -/
def drainSync (s : State) : State :=
  if s.setup.optDrain ≠ .gravity ∨ s.water.tankIn.filtered = false then
    s.setWater { s.water with drainBlocked := false, drainClear := none }
  else if s.water.float.filtered = true then s.setWater { s.water with drainBlocked := true, drainClear := none }
  else if s.water.drainBlocked = true ∧ s.water.drainClear = none then s.setWater { s.water with drainClear := some 0 }
  else s

/-- The drain clear timer has reached 60 s (R120). -/
def clearDrain (s : State) : State := s.setWater { s.water with drainBlocked := false, drainClear := none }

/-! The pump run (R123 to R127) -/

/-- A level or a difference of levels in 0.1 %, as mL of the tank (R122, R126). -/
def State.millilitres (s : State) (level : Int) : Nat := (roundDiv (level * (s.setup.tankCapacity : Int)) 1000).toNat

/-- A measured run: one with a start level (R123). -/
abbrev PumpRun.measured (p : PumpRun) : Prop := p.startLevel.isSome

/-- The water a measured run moved, not below 0 (R126). -/
def State.waterMoved (s : State) : Option Nat :=
  match s.water.pump.startLevel, s.water.pump.latestLevel with
  | some a, some b => some (s.millilitres (max 0 (a - b)))
  | _, _ => none

/-- The failure count after a run (R127). -/
def failuresAfter (result : PumpResult) (n : Nat) : Nat :=
  match result with
  | .done => 0
  | .blindDone => 0
  | .timeout => min 3 (n + 1)
  | .noFlow => min 3 (n + 1)
  | .cancelled => n
  | .abortedTankOut => n
  | .abortedReset => n

/-- What the end of a run does to the Water Controller's record (R126 steps 1 to 4 and 6, R127). -/
def Water.endRun (result : PumpResult) (now : Nat) (moved : Option Nat) (w : Water) : Water :=
  { w with
    pumpOn := false,
    total := min maxCount32 (w.total + moved.getD 0),
    unknownRuns := if moved.isNone then min maxCount16 (w.unknownRuns + 1) else w.unknownRuns,
    failures := failuresAfter result w.failures,
    fault := w.fault || decide (failuresAfter result w.failures = 3),
    pump := { w.pump with state := .resting, rest := some 0, result := some result, endedAt := some now, moved := moved } }

/-- A run ends (R126). The tank state and DRAIN_BLOCKED are evaluated, and the conditions handed on before PUMP_RUN_END, lowest id first
(R118, R120, R158), and the Service Unit is told of the end of a SERVICE run (R186). -/
def endPump (result : PumpResult) (s : State) : State :=
  let service := decide (s.water.pump.kind = some .service)
  let s := releaseClaim .water (s.setWater (s.water.endRun result s.time.uptime s.waterMoved))
  let s := oneShot 24 (publish (drainSync (tankSync s)))
  match s.serv.run with
  | some r => if service = true ∧ r.kind = .pump then endServiceRun s else s
  | none => s

/-- The conditions for a run to start, other than its trigger (R124). -/
abbrev State.pumpMayStart (s : State) : Prop :=
  s.water.pump.state = .idle ∧ s.isActive ∧ s.setup.optDrain = .pump ∧ s.water.tankIn.filtered = true ∧ s.water.fault = false
    ∧ s.supplyLow = false

/-- A run starts (R124). A BLIND run keeps the levels absent. -/
def startPump (kind : PumpKind) (s : State) : State :=
  let level := if kind = .blind then none else s.qual .tankLvl
  takeClaim .water .tankLvl (s.setWater { s.water with
    pumpOn := true,
    pump := { state := .running, kind := some kind, startedAt := some s.time.uptime, startLevel := level, latestLevel := level,
              elapsed := 0, rest := none, result := none, endedAt := none, moved := none } })

/-- The trigger that holds by itself, LEVEL before BLIND (R124). -/
def State.pumpTrigger (s : State) : Option PumpKind :=
  match s.qual .tankLvl with
  | some v => if 600 ≤ v then some .level else if s.water.float.filtered then some .blind else none
  | none => if s.water.float.filtered then some .blind else none

/-- The start triggers are tested (R124). -/
def autoPump (s : State) : State :=
  match s.pumpTrigger with
  | some kind => if s.pumpMayStart then startPump kind s else s
  | none => s

/-- A run is RUNNING. -/
abbrev State.pumping (s : State) : Prop := s.water.pump.state = .running

/-- The DONE test (R126). -/
def State.pumpDone (s : State) : Bool :=
  decide s.pumping && match s.qual .tankLvl with | some v => decide (v ≤ 150) | none => false

/-- The NO_FLOW test (R126). -/
def State.pumpNoFlow (s : State) : Bool :=
  decide s.pumping && decide (s.water.pump.elapsed = 30) &&
    match s.water.pump.startLevel, s.water.pump.latestLevel with
    | some a, some b => decide (a - 50 < b)
    | _, _ => false

/-- The BLIND_DONE test (R126). -/
def State.pumpBlindDue (s : State) : Bool :=
  decide s.pumping && decide (s.water.pump.elapsed = 45) && s.water.pump.startLevel.isNone

/-- The TIMEOUT test (R126). -/
def State.pumpTimedOut (s : State) : Bool :=
  decide s.pumping && decide (s.water.pump.elapsed = 90) && s.water.pump.startLevel.isSome

/-- The rest is over (R126). -/
def State.pumpRested (s : State) : Bool := decide (s.water.pump.state = .resting) && reached 20 s.water.pump.rest

/-- The record becomes IDLE after the rest (R126); the start triggers are tested with the rest of the event. -/
def endRest (s : State) : State := s.setPump { s.water.pump with state := .idle, rest := none }

/-- What a tick, already counted, makes of the pump run: the tests in the order of R126, or the end of the rest. -/
def pumpTick (s : State) : State :=
  if s.pumpDone then endPump .done s
  else if s.pumpNoFlow then endPump .noFlow s
  else if s.pumpBlindDue then endPump .blindDone s
  else if s.pumpTimedOut then endPump .timeout s
  else if s.pumpRested then endRest s
  else s

/-- A qualified TANK_LVL value is handed on: held level and latest level, then the DONE test (R122, R126). -/
def waterLevel (v : Int) (s : State) : State :=
  let s :=
    if s.setup.optDrain ≠ .gravity ∧ s.water.tankIn.filtered = true then s.setWater { s.water with held := some v } else s
  let s := if s.pumping then s.setPump { s.water.pump with latestLevel := some v } else s
  if s.pumpDone then endPump .done s else s

/-- TANK_LVL has become FAULTED or OFF: the held level becomes absent (R122). -/
def loseHeld (s : State) : State := s.setWater { s.water with held := none }

/-- An emptying is counted (R122). -/
def countEmptying (s : State) : State :=
  match s.water.held with
  | some v =>
    s.setWater { s.water with
      emptyings := min maxCount16 (s.water.emptyings + 1), total := min maxCount32 (s.water.total + s.millilitres v), held := none }
  | none =>
    s.setWater { s.water with
      emptyings := min maxCount16 (s.water.emptyings + 1), unknownEmptyings := min maxCount16 (s.water.unknownEmptyings + 1),
      held := none }

/-- The tank goes from present to not present: a run is aborted first, then the emptying is counted (R122, R126). -/
def tankPulled (s : State) : State :=
  let s := if s.pumping then endPump .abortedTankOut s else s
  if s.setup.optDrain = .gravity then s else countEmptying s

/-- FAULT_CLEAR of the pump (R127); the tank state and the start triggers follow with the rest of the event. -/
def clearPump (s : State) : State := s.setWater { s.water with failures := 0, fault := false }

/-- A change of OPT_DRAIN: the tank state is evaluated afresh, FULL or not (R115). The held level is not kept in GRAVITY (R120). -/
def applyDrain (d : Drain) (s : State) : State :=
  if d = s.setup.optDrain then s
  else
    let s := s.setSetup { s.setup with optDrain := d }
    let s := if d = .gravity then loseHeld s else s
    s.setWater { s.water with tank := s.tankFresh }

/-! Filtered inputs (R116) -/

/-- A pin takes a level: a rejection timer starts at a change away from the filtered value, and is dropped at a return to it. -/
def Input.takePin (level : Bool) (i : Input) : Input := { i with pin := level, timing := decide (level ≠ i.filtered) }

/-- The rejection time is up with the pin still at the new level. -/
abbrev Input.accepts (i : Input) : Prop := i.timing = true ∧ i.pin ≠ i.filtered

/-- The accepted change. -/
def Input.accept (i : Input) : Input := { i with filtered := i.pin, timing := false }

end Sys2Proof.Machine
end

