-- ==== Sys2Proof/Machine/Qualifier.lean ====
section
/-! DEFINITION. The Reading Qualifier: what each event does to a channel record (R18 to R36), and what the readers do at the moment a
record changes (R25). -/

namespace Sys2Proof.Machine

/-! One record -/

/-- The mean of the window, to the nearest step, halves away from zero (R25). -/
def windowMean (w : List Int) : Int := roundDiv w.sum w.length

/-- The run ends and the channel goes to `state` (R18): window empty, run count 0, no qualified value. -/
def Chan.restart (state : ChanState) (c : Chan) : Chan := { c with state := state, window := [], run := 0, value := none }

/-- A rail reading (R21). -/
def Chan.hardFault (c : Chan) : Chan := { c.restart .faulted with faultCount := 255 }

/-- An out-of-range sample (R22). -/
def Chan.outOfRange (c : Chan) : Chan :=
  let n := if 254 ≤ c.faultCount then c.faultCount else c.faultCount + 1
  { c.restart (if c.faultLimit ≤ n then .faulted else .qualifying) with faultCount := n }

/-- The sample differs from the newest window value by more than the step limit (R23). -/
def Chan.isJump (limit : Nat) (v : Int) (c : Chan) : Bool :=
  match c.window.getLast? with
  | some w => decide (limit < (v - w).natAbs)
  | none => false

/-- A sample taken into the window: the accepted mark and last accepted at (R20). -/
def Chan.markAccepted (smp : Sample) (c : Chan) : Chan :=
  { c with last := some { smp with accepted := true }, lastAccepted := some smp.takenAt }

/-- A jump (R23). -/
def Chan.jump (smp : Sample) (c : Chan) : Chan :=
  let c := c.markAccepted smp
  if c.threshold ≤ 1 then { c with state := .qualified, window := [smp.value], run := 1, value := some smp.value }
  else { c with state := .qualifying, window := [smp.value], run := 1, value := none }

/-- The sample at the tail of the window, the oldest of five dropped (R24). -/
def pushWindow (w : List Int) (v : Int) : List Int :=
  let w := w ++ [v]
  if 5 ≤ w.length then w.drop 1 else w

/-- An accepted sample (R24). -/
def Chan.accept (smp : Sample) (c : Chan) : Chan :=
  let c := c.markAccepted smp
  let w := pushWindow c.window smp.value
  let n := if c.run = c.threshold then c.run else c.run + 1
  if c.state = .qualified ∨ n = c.threshold then
    { c with state := .qualified, window := w, run := n, value := some (windowMean w) }
  else { c with window := w, run := n }

/-- A delivered sample: the last sample is replaced, and then the tests in the order of R20 to R24. -/
def Chan.deliver (ch : Channel) (smp : Sample) (c : Chan) : Chan :=
  let c := { c with last := some { smp with accepted := false } }
  if c.state = .qualifying ∨ c.state = .qualified then
    if smp.rail then c.hardFault
    else if ch.inRange smp.value = false then c.outOfRange
    else if c.isJump ch.scale.stepLimit smp.value then c.jump smp
    else c.accept smp
  else c

/-- The state a channel takes when it is converted again (R26, R31): `powered` is PM_PWR, which only PM needs. -/
def Chan.entryState (ch : Channel) (powered : Bool) (c : Chan) : ChanState :=
  if ch ≠ .pm then .qualifying
  else if powered = false then .off
  else if 0 < c.warmup.getD 0 then .warming
  else .qualifying

/-- An entered notice (R26). -/
def Chan.entered (ch : Channel) (powered : Bool) (c : Chan) : Chan :=
  if c.state = .off then c.restart (c.entryState ch powered) else c

/-- A left notice, or the sensor's power-off for PM: OFF, but a FAULTED channel stays FAULTED (R26, R27). -/
def Chan.leave (c : Chan) : Chan := if c.state = .faulted ∨ c.state = .off then c else c.restart .off

/-- PM_PWR turns on (R27). -/
def Chan.powerOn (warmup : Nat) (member : Bool) (c : Chan) : Chan :=
  let c := { c with warmup := some warmup }
  if c.state = .off ∧ member = true then c.restart .warming else c

/-- PM_PWR turns off (R27). -/
def Chan.powerOff (c : Chan) : Chan := { c.leave with warmup := none }

/-- Warm-up remaining has reached 0 (R28). -/
def Chan.warmedUp (c : Chan) : Chan := if c.state = .warming ∧ c.warmup = some 0 then c.restart .qualifying else c

/-- A new threshold, applied to the current run at once (R29). -/
def Chan.setThreshold (n : Nat) (c : Chan) : Chan :=
  if c.state = .qualifying ∨ c.state = .qualified then
    if n < c.threshold then
      let run := min c.run n
      if c.state = .qualifying ∧ run = n then
        { c with threshold := n, run := run, state := .qualified, value := some (windowMean c.window) }
      else { c with threshold := n, run := run }
    else if c.threshold < n then { c with threshold := n, state := .qualifying, value := none }
    else c
  else { c with threshold := n }

/-- A new fault limit (R30). -/
def Chan.setLimit (n : Nat) (c : Chan) : Chan := { c with faultLimit := n }

/-- FAULT_CLEAR (R31). -/
def Chan.clearFault (ch : Channel) (powered member : Bool) (c : Chan) : Chan :=
  let c := { c with faultCount := 0 }
  if c.state = .faulted then c.restart (if member then c.entryState ch powered else .off) else c

/-- A substitution change (R32). -/
def Chan.substitute (flag : Bool) (c : Chan) : Chan :=
  let c := { c with subst := flag }
  if c.state = .qualifying ∨ c.state = .qualified then c.restart .qualifying else c

/-- A soft reset, with `state` as R36 gives it. -/
def Chan.softReset (state : ChanState) (c : Chan) : Chan :=
  { c.restart state with
    faultCount := 0, last := c.last.map fun l => { l with accepted := false }, subst := false, warmup := none }

/-! The readers (R25) -/

/-- What a change of a record tells a reader of values: a new qualified value. One that has not changed is not sent again (R25; log entry
31). -/
def newValue (old new : Chan) : Option Int := if new.value = old.value then none else new.value

/-- The Drying Controller reads RH (R94): the test for DRY_WEAK at each change of the value. Mode demand follows with the rest of the
event (R78). -/
def readRh (old new : Chan) (s : State) : State := if new.value = old.value then s else testWeak s

/-- The Drying Controller reads ROOM_T (R93): the periodic test at each change of value or state in RUNNING. -/
def readRoom (old new : Chan) (s : State) : State :=
  if (new.value ≠ old.value ∨ new.state ≠ old.state) ∧ s.runningNormal ∧ s.periodicFrost = true then enterDefrost s else s

/-- The record has become FAULTED or OFF. -/
def Chan.becomesLost (old new : Chan) : Bool := new.lost && decide (new.state ≠ old.state)

/-- The Water Controller and the Drying Controller read TANK_LVL (R94, R122, R126). The held level is lost when TANK_LVL becomes FAULTED or
OFF; a soft reset, which notifies nobody, keeps it (log entry 40). -/
def readTank (old new : Chan) (s : State) : State :=
  let s := if old.becomesLost new then loseHeld s else s
  match newValue old new with
  | some v => waterLevel v (followRise v s)
  | none => s

/-- Filter Accounts counts FILTER_DP samples in SAMPLING (R146). -/
def readDp (accepted : Bool) (new : Chan) (s : State) : State :=
  if accepted = true ∧ s.filt.check.state = .sampling ∧ new.state = .qualified then
    match new.last with
    | some smp => countSample smp.value s
    | none => s
  else s

/-- The Cleaning Controller reads PM (R66 to R71). -/
def readPm (old new : Chan) (s : State) : State := changeClean (fun c => c.react s.setup old new) s

/-- The Drying Controller reads COMP_I in STARTING (R83). The trip timer and step STOP follow with the rest of the event. -/
def readCurrent (old new : Chan) (s : State) : State :=
  match newValue old new with
  | some v =>
    if s.dry.level = .normal ∧ s.dry.phase = .starting then
      s.setDry { s.dry with lastStart := some v, currentSeen := s.dry.currentSeen || decide (80 ≤ v) }
    else s
  | none => s

/-- The readers of a channel act on a change of its record (R25). The rules that only compare the record as it stands (ROOM_COLD, the
tank state, the supply state, mode demand, the warm, frost and trip timers) are taken with the rest of the event. -/
def notify (ch : Channel) (accepted : Bool) (old new : Chan) (s : State) : State :=
  match ch with
  | .rh => readRh old new s
  | .roomT => readRoom old new s
  | .coilT => s
  | .tankLvl => readTank old new s
  | .filterDp => readDp accepted new s
  | .pm => readPm old new s
  | .supply => s
  | .compI => readCurrent old new s

/-- A channel record is replaced. -/
def putChan (ch : Channel) (new : Chan) (s : State) : State := s.setChans (s.chans.set ch new)

/-- A channel record changes otherwise than by a sample, and its readers act. -/
def changeChan (ch : Channel) (f : Chan → Chan) (s : State) : State :=
  notify ch false (s.chan ch) (f (s.chan ch)) (putChan ch (f (s.chan ch)) s)

/-- A sample reaches a channel record, and its readers act. -/
def sampleChan (ch : Channel) (smp : Sample) (s : State) : State :=
  let old := s.chan ch
  let new := old.deliver ch smp
  notify ch (match new.last with | some l => l.accepted | none => false) old new (putChan ch new s)

/-- A change made on several channels in turn. -/
def changeChans (f : Channel → Chan → Chan) : List Channel → State → State
  | [], s => s
  | c :: cs, s => changeChans f cs (changeChan c (f c) s)

/-- The channel is a member of the sequence in force (R9). -/
def State.member (s : State) (c : Channel) : Bool := decide (c ∈ s.scan.members)

/-- PM_PWR turns on (R27). -/
def pmPowerOn (s : State) : State :=
  let s := s.setClean { s.clean with pmPwr := true }
  changeChan .pm (fun c => c.powerOn s.setup.pmWarmup (s.member .pm)) s

/-- PM_PWR turns off (R27). -/
def pmPowerOff (s : State) : State :=
  let s := s.setClean { s.clean with pmPwr := false }
  changeChan .pm (fun c => c.powerOff) s

/-- FAULT_CLEAR of one channel (R31). -/
def clearChannel (ch : Channel) (s : State) : State :=
  changeChan ch (fun c => c.clearFault ch s.clean.pmPwr (s.member ch)) s

/-- The mode change of CLEAN_MODE (R61, R62): the power first, then the record and its row. -/
def applyCleanMode (mode : CleanMode) (level : Nat) (s : State) : State :=
  match mode with
  | .off => if s.clean.mode = .off then s else pmPowerOff (changeClean (fun c => c.enterOff) s)
  | .manual =>
    let s := if s.clean.mode = .off then pmPowerOn s else s
    changeClean (fun c => c.enterManual level) s
  | .auto =>
    if s.clean.mode = .auto then s
    else
      let s := if s.clean.mode = .off then pmPowerOn s else s
      changeClean (fun c => c.enterAuto s.setup (s.qual .pm)) s

end Sys2Proof.Machine
end

