-- ==== Sys2Proof/Machine/Scanner.lean ====
section
/-! DEFINITION. The Measurement Scanner: the sequence, the start of a slot and the delivery of a sample, with the stand-in values of the
Service Unit (R3 to R13, R187, R188). -/

namespace Sys2Proof.Machine

/-- A member is converted unless it is PM and PM_PWR is off (R9). -/
def converted (powered : Bool) (c : Channel) : Bool := powered || decide (c ≠ .pm)

/-- The members: the plan, and what is emphasized outside it (R9). -/
def membersOf (plan emph : List Channel) : List Channel := plan ++ emph.filter (fun c => !decide (c ∈ plan))

/-- The sequence of a plan, an emphasized list and the sensor's power (R9). -/
def buildSequence (plan emph : List Channel) (powered : Bool) : List Channel :=
  let part := emph.filter (converted powered)
  let base := plan.filter fun c => converted powered c && !decide (c ∈ emph)
  if base = [] then part else base.flatMap fun b => part ++ [b]

/-- The sequence built from the plan, emphasis and power as they stand (R10). -/
def State.nextSequence (s : State) : List Channel := buildSequence s.scan.plan (emphasized s.scan.claims) s.clean.pmPwr

/-- The members as the plan and the emphasis stand (R9). -/
def State.nextMembers (s : State) : List Channel := membersOf s.scan.plan (emphasized s.scan.claims)

/-- The newly built sequence is put in force at its first step, or the position is kept (R10). -/
def installSequence (s : State) : State :=
  s.setScan { s.scan with
    members := s.nextMembers, seq := s.nextSequence,
    pos := if s.nextSequence = s.scan.seq then s.scan.pos else 0 }

/-- The notices of R11: left to the channels that have stopped being members, entered to those that have become members. DESIGN CHOICE
(log entry 38): the records change in channel-number order, and what the readers hold by the state of several channels is taken once,
behind the last notice. -/
def sendNotices (old new : List Channel) (s : State) : State :=
  changeChans (fun ch c =>
    if ch ∈ new ∧ ch ∉ old then c.entered ch s.clean.pmPwr else if ch ∈ old ∧ ch ∉ new then c.leave else c) Channel.all s

/-- The conversion of the current step begins, or the slot passes idle (R3, R4). -/
def beginConversion (s : State) : State := s.setScan { s.scan with converting := s.scan.seq[s.scan.pos]? }

/-- The conversion slots of a second (R149). -/
def slotsPerTick : Nat := 64

/-- A slot may begin: none is under way, and the second has not had its 64 slots (R149). -/
abbrev State.slotDue (s : State) : Prop := s.scan.converting = none ∧ s.time.slot < slotsPerTick

/-- The second is over: its last slot has passed (R149). -/
abbrev State.tickDue (s : State) : Prop := s.scan.converting = none ∧ slotsPerTick ≤ s.time.slot

/-- The Time Base counts the slots of the second, idle ones among them (R4, R149). -/
def countSlot (s : State) : State := s.setTime { s.time with slot := s.time.slot + 1 }

/-- The start of a conversion slot with no conversion under way (R3, R10, R11, R149). -/
def startSlot (s : State) : State :=
  let old := s.scan.members
  beginConversion (sendNotices old s.nextMembers (installSequence (countSlot s)))

/-! Stand-in values (R187, R188) -/

/-- The value after the next one of a record in force (R188). -/
def Subst.advance (r : Subst) : Subst :=
  match r.kind with
  | .fixed v => { r with next := v }
  | .ramp start step stop again =>
    if r.next = stop then { r with next := if again then start else stop }
    else
      let v := r.next + step
      if (0 < step ∧ stop ≤ v) ∨ (step < 0 ∧ v ≤ stop) then { r with next := stop } else { r with next := v }

/-- The record of a channel's substitution. -/
def State.substOf (s : State) (c : Channel) : Option Subst := s.serv.subst.get c

def State.setSubst (s : State) (c : Channel) (r : Option Subst) : State :=
  s.setServ { s.serv with subst := s.serv.subst.set c r }

/-- The sample a channel delivers for a raw code: a stand-in value if a substitution is in force (R3, R13). -/
def State.sampleFor (s : State) (c : Channel) (raw : Nat) : Sample :=
  match s.substOf c with
  | some r => { raw := none, value := r.next, rail := false, substituted := true, takenAt := s.time.uptime, accepted := false }
  | none =>
    { raw := some raw, value := c.scaled raw, rail := decide (raw = 0 ∨ raw = 4095), substituted := false, takenAt := s.time.uptime,
      accepted := false }

/-- The slot is over: the step advances (R10). -/
def advanceStep (s : State) : State :=
  s.setScan { s.scan with pos := if s.scan.pos + 1 < s.scan.seq.length then s.scan.pos + 1 else 0, converting := none }

/-- The stand-in value of a converted channel advances (R188). -/
def advanceSubst (c : Channel) (s : State) : State := s.setSubst c ((s.substOf c).map Subst.advance)

/-- A conversion completes and its sample is delivered (R3, R13, R20). Nothing is delivered in an idle slot (R4). -/
def deliverSample (raw : Nat) (s : State) : State :=
  match s.scan.converting with
  | some c => sampleChan c (s.sampleFor c raw) (advanceSubst c (advanceStep s))
  | none => s

/-- SUBST_SET's effect (R32, R187). -/
def applySubst (c : Channel) (kind : SubstKind) (next : Int) (s : State) : State :=
  changeChan c (Chan.substitute true) (s.setSubst c (some { kind := kind, next := next }))

/-- SUBST_CLEAR's effect on one channel: nothing where no record is in force (R188). -/
def clearSubst (c : Channel) (s : State) : State :=
  if (s.substOf c).isSome then changeChan c (Chan.substitute false) (s.setSubst c none) else s

end Sys2Proof.Machine
end

