-- ==== Sys2Proof/Machine/Service.lean ====
section
/-! DEFINITION. The Service Unit's runs: how each kind starts, and how a run ends (R182 to R186). -/

namespace Sys2Proof.Machine

/-- A FAN run starts: the SERVICE row, and the claim if a channel was given (R184). -/
def startFanRun (level duration : Nat) (ch : Option Channel) (s : State) : State :=
  let s := s.setServ { s.serv with run := some { kind := .fan, level := some level, channel := ch, remaining := some duration } }
  let s := setRow .service .exactly level s
  match ch with
  | some c => takeClaim .service c s
  | none => s

/-- A COMPRESSOR run starts: effective demand follows from the record (R78, R185). -/
def startCompressorRun (duration : Nat) (s : State) : State :=
  s.setServ { s.serv with run := some { kind := .compressor, level := none, channel := none, remaining := some duration } }

/-- A PUMP run starts, with a pump run of kind SERVICE (R186). -/
def startPumpRun (s : State) : State :=
  startPump .service
    (s.setServ { s.serv with run := some { kind := .pump, level := none, channel := none, remaining := none } })

/-- A run in force ends, its effect undone: the SERVICE row and claim of a FAN run are released (R184); a PUMP run's pump run ends
CANCELLED and ends the service run with it (R186); a COMPRESSOR run stops keeping effective demand (R185). -/
def stopService (s : State) : State :=
  match s.serv.run with
  | none => s
  | some r =>
    match r.kind with
    | .fan => endServiceRun (releaseClaim .service (releaseRow .service s))
    | .compressor => endServiceRun s
    | .pump => if s.pumping ∧ s.water.pump.kind = some .service then endPump .cancelled s else endServiceRun s

/-- The seconds remaining of a FAN or COMPRESSOR run have reached 0 (R182). -/
def State.serviceExpired (s : State) : Bool :=
  match s.serv.run with
  | some r => decide (r.remaining = some 0)
  | none => false

/-- The expiry of a run (R182). -/
def serviceTick (s : State) : State := if s.serviceExpired then stopService s else s

end Sys2Proof.Machine
end

