-- ==== Sys2Proof/Machine/Settle.lean ====
section
/-! DEFINITION. What follows from a change "at that moment" or "in the same event": the blocks take what the change means for them, in
rounds, until the event is done. Each part acts only where its rule has something to do, so a settled state is left as it is. -/

namespace Sys2Proof.Machine

/-! The parts -/

/-- Supply Watch evaluates the supply state (R154). -/
def supplySync (s : State) : State :=
  let c := s.chan .supply
  if c.lost then s.setSupplyLow true
  else match c.value with
    | some v =>
      if v ≤ (s.setup.supplyWarn : Int) then s.setSupplyLow true
      else if (s.setup.supplyWarn : Int) + 100 ≤ v then s.setSupplyLow false
      else s
    | none => s

/-- ROOM_COLD follows ROOM_T's qualified value (R104). -/
def roomSync (s : State) : State :=
  match s.qual .roomT with
  | some v =>
    if v < 50 then s.setDry { s.dry with roomCold := true }
    else if 60 ≤ v then s.setDry { s.dry with roomCold := false }
    else s
  | none => s

/-- The causes are raised one by one; after each the airflow side takes what it changed, and the conditions are handed on. -/
def raiseAll : List HoldCause → State → State
  | [], s => s
  | c :: cs, s => raiseAll cs (publish (airflow (raiseCause c s)))

/-- The causes are cleared one by one, in the same way. -/
def clearAll : List HoldCause → State → State
  | [], s => s
  | c :: cs, s => clearAll cs (publish (airflow (clearCause c s)))

/-- A free order has been taken. -/
def nextFree (s : State) : State := s.setFree (s.free + 1)

/-- The owners raise and clear their causes (R103). Where some are raised and some cleared together, either may be taken first (R109,
R121): the order is free. -/
def holdSync (s : State) : State :=
  let up := causesToRaise s
  let down := causesToClear s
  if up = [] then clearAll down s
  else if down = [] then raiseAll up s
  else if Config.orderFree s.free then clearAll down (raiseAll up (nextFree s))
  else raiseAll up (clearAll down (nextFree s))

/-- The airflow side and the hold causes. Where both have something to take, either may be first (R91, R117, R155): the order is free. With
the hold first, the Arbiter computes AIRFLOW_SHORT with COMP_ON already off, so that it is not raised (DESIGN CHOICE: log entry 53). -/
def airAndHolds (s : State) : State :=
  if s.airPending ∧ (causesToRaise s ≠ [] ∨ causesToClear s ≠ []) then
    if Config.orderFree s.free then holdSync (publish (airflow (nextFree s))) else airflow (holdSync (nextFree s))
  else holdSync (publish (airflow s))

/-- The pressure check follows the fan and FILTER_DP (R145). A check that starts with both ready enters SAMPLING in that same event, behind
the reply of a FILTER_CHECK that started it (DESIGN CHOICE: log entry 50). -/
def checkSync (s : State) : State :=
  if s.checkBusy ∧ (s.chan .filterDp).state = .faulted then endCheck .failedNoReading s
  else if s.filt.check.state = .waiting ∧ s.checkReady then
    s.setCheck { s.filt.check with state := .sampling, samples := 0, sum := 0 }
  else if s.filt.check.state = .sampling ∧ ¬ s.checkReady then
    let failure := s.checkFailure
    let out := reached 60 s.filt.check.timer
    let s := s.setCheck { s.filt.check with state := .waiting, samples := 0, sum := 0 }
    if out then endCheck failure s else s
  else s

/-- Mode demand in TARGET follows RH (R78). -/
def demandSync (s : State) : State :=
  if s.dry.mode = .target then s.setDry { s.dry with demand := targetDemand s.dry.setpoint (s.qual .rh) s.dry.demand } else s

/-- Step STOP ends when the compressor current has died away (R100). -/
def stopSync (s : State) : State := if s.inStop ∧ s.stopOver = true then endStop s else s

/-- A timer that runs while a reading justifies it: started at 0, kept, or absent. -/
def timerWhile (on : Bool) (t : Option Nat) : Option Nat := if on then some (t.getD 0) else none

/-- A qualified value meets a test. -/
def valueMeets (p : Int → Bool) : Option Int → Bool
  | some v => p v
  | none => false

/-- The warm timer in MELT (R101), and the coil frost and trip timers in RUNNING (R87, R93). -/
def timerSync (s : State) : State :=
  if s.inMelt then
    s.setDry { s.dry with warm := timerWhile (valueMeets (fun v => decide (40 ≤ v)) (s.qual .coilT)) s.dry.warm }
  else if s.runningNormal then
    s.setDry { s.dry with
      coilFrost := timerWhile (valueMeets (fun v => decide (v ≤ -10)) (s.qual .coilT)) s.dry.coilFrost,
      trip := timerWhile (valueMeets (fun v => decide (600 < v)) (s.qual .compI)) s.dry.trip }
  else s

/-- A loss of demand in RUNNING with the minimum on time past (R86). -/
abbrev State.demandLost (s : State) : Prop := s.runningNormal ∧ s.effDemand = false ∧ reached 120 s.dry.onTime = true

/-- Demand loss between ticks (R86). -/
def lossSync (s : State) : State := if s.demandLost then enterStopping .demand s else s

/-- The start wait is running in IDLE. -/
abbrev State.startWaiting (s : State) : Prop := s.idleNormal ∧ s.dry.startWait.isSome

/-- The start wait ends with the fan ready, or a condition lost (R82). -/
def waitSync (s : State) : State :=
  if s.startWaiting then
    if ¬ s.mayStart then loseAttempt s else if s.fanReady then enterStarting s else s
  else s

/-- A start attempt begins (R81), and its wait may end in the same event. The airflow side takes the row in between. -/
def startSync (s : State) : State := waitSync (airflow (if s.attemptDue then beginAttempt s else s))

/-- A due check starts (R144). -/
def checkStartSync (s : State) : State := if s.checkMayStart then airflow (startCheck s) else s

/-- A start and a check that could both be taken now: either may be first (R82, R144), and the order is free. -/
def startsSync (s : State) : State :=
  if s.checkMayStart ∧ (s.attemptDue ∨ (s.startWaiting ∧ s.fanReady)) then
    if Config.orderFree s.free then checkStartSync (startSync (nextFree s)) else startSync (checkStartSync (nextFree s))
  else checkStartSync (startSync s)

/-- The idle timer runs exactly while its conditions hold (R92). -/
def idleSync (s : State) : State :=
  s.setDry { s.dry with idleTimer := timerWhile (decide s.idleTiming) s.dry.idleTimer }

/-! The rounds -/

/-- One round of everything that follows a change. Where one event brings them about together, a hold stands before a loss of demand (log
entry 43), and the clear of a cause before the end of step STOP (log entry 44). -/
def settleRound (s : State) : State :=
  let s := roomSync (drainSync (tankSync (supplySync s)))
  let s := airAndHolds (publish s)
  let s := timerSync (stopSync (demandSync (checkSync s)))
  let s := startsSync (lossSync s)
  publish (airflow (idleSync s))

def settleRounds : Nat → State → State
  | 0, s => s
  | n + 1, s => settleRounds n (settleRound s)

/-- The number of rounds: the longest chain of consequences the rules give is shorter (log entry 11). -/
def roundLimit : Nat := 6

/-- Everything that follows, but for the pump's start triggers. -/
def settle (s : State) : State := settleRounds roundLimit s

/-- Whether one of the changes at which the start triggers are tested has come about (R124). -/
def pumpInputsChanged (old new : State) : Bool :=
  decide ((new.chan .tankLvl).state ≠ (old.chan .tankLvl).state) || decide (new.qual .tankLvl ≠ old.qual .tankLvl)
    || decide (new.water.float.filtered ≠ old.water.float.filtered) || decide (new.water.tankIn.filtered ≠ old.water.tankIn.filtered)
    || decide (new.supplyLow ≠ old.supplyLow) || decide (new.water.fault ≠ old.water.fault)
    || decide (new.water.pump.state ≠ old.water.pump.state) || decide (new.link.part ≠ old.link.part)

/-- The second state, with the entries it has added to the pending list of the first in order of event id, lowest first; two edges of one
condition keep the order in which they came about (R158, log entry 28). -/
def inIdOrder (old new : State) : State :=
  let n := old.ev.list.length
  new.setEv { new.ev with list := new.ev.list.take n ++ (new.ev.list.drop n).insertionSort fun a b => a.id ≤ b.id }

/-- An event: the change itself, everything that follows from it, and the pump's start triggers where one of their inputs changed, behind
their neighbours of R155 (log entry 26). What the event hands on to the Event Latch stands in order of event id (R158). -/
def event (f : State → State) (s : State) : State :=
  let t := settle (f s)
  inIdOrder s (if pumpInputsChanged s t then autoPump t else t)

/-- A request for several channels, taken on each in turn as if it named that channel alone (R30, R31, R188): every change but the last has
its own consequences before the next; the consequences of the last are those of the request. -/
def eachInTurn (f : Channel → State → State) : List Channel → State → State
  | [], s => s
  | [c], s => f c s
  | c :: d :: cs, s => eachInTurn f (d :: cs) (event (f c) s)

end Sys2Proof.Machine
end

