-- ==== Sys2Proof/Machine/Resets.lean ====
section
/-! DEFINITION. The resets: the reset sources and the cut comparator (R152, R153), what the part is in reset and on leaving it (R164),
and the soft reset (R165 with each chapter's soft-reset rule). -/

namespace Sys2Proof.Machine

/-! The full reset -/

/-- Every block at its full-reset values for the pins as they stand, with the resets given; the queue and the count of free values are
the model's and go on. -/
def resetBlocks (rst : Resets) (s : State) : State :=
  ((State.fullReset rst s.water.tankIn.pin s.water.float.pin s.water.cover.pin).setPending s.pending).setFree s.free

/-- The part in reset: its state is abandoned, its outputs are off and ATTN is released (R153). What it shows meanwhile is no part of
the manual (log entry 22). -/
def inReset (rst : Resets) (s : State) : State :=
  let t := resetBlocks { rst with inReset := true } s
  t.setEv { t.ev with list := [] }

/-- The part leaves reset with the full-reset values of every chapter. The causes that stand enter a hold at once, and the values that
result are the Event Latch's starting values, without edges (R112, R164). -/
def leaveReset (rst : Resets) (s : State) : State :=
  let t := settle (resetBlocks { rst with inReset := false } s)
  t.setEv { Events.atReset rst.cause with stored := conditions t }

/-- No source is asserted any longer. -/
def Resets.free (r : Resets) : Bool := !r.cut && !r.srcPower && !r.srcPin && !r.srcLink

/-- A source has been deasserted: the part leaves reset when none is left (R153). -/
def afterRelease (rst : Resets) (s : State) : State :=
  if rst.inReset = true ∧ rst.free = true then leaveReset rst s else s.setRst rst

/-- A source has been asserted: it begins the reset, with its cause, or finds the part in reset already (R153). -/
def assertSource (cause : ResetCause) (rst : Resets) (s : State) : State :=
  if rst.inReset then s.setRst rst else inReset { rst with cause := cause } s

/-- The core supply comes up: power-on, with the comparator in CUT and its release timer started where the bus is at or above 19.0 V
already (R152, R153). -/
def powerUp (s : State) : State :=
  inReset { s.rst with cut := true, releasing := s.rst.busHigh, srcPower := true, srcLink := false, cause := .powerOn } s

/-- The bus falls below 17.5 V: in CUT the release timer is dropped, as at any fall below 19.0 V (R152). -/
def cutSupply (s : State) : State :=
  let rst := { s.rst with busHigh := false, cut := true, releasing := false }
  if s.rst.cut then s.setRst rst else assertSource .supply rst s

/-- The bus crosses 19.0 V: in CUT the release timer starts at a rise and is dropped at a fall (R152). -/
def crossSupply (rising : Bool) (s : State) : State :=
  s.setRst { s.rst with busHigh := rising, releasing := s.rst.cut && rising }

/-- The release timer reaches 100 ms (R152). -/
def releaseCut (s : State) : State :=
  if s.rst.cut = true ∧ s.rst.releasing = true then afterRelease { s.rst with cut := false, releasing := false } s else s

/-- A source other than the comparator is deasserted (R153). -/
def Resets.deassert (source : ResetSource) (r : Resets) : Resets :=
  match source with
  | .powerOn => { r with srcPower := false }
  | .pin => { r with srcPin := false }
  | .linkFull => { r with srcLink := false }

/-! The soft reset -/

/-- The state of a channel after a soft reset (R36). -/
def softState (plan : List Channel) (c : Channel) : ChanState :=
  if c = .pm then .off else if c ∈ plan then .qualifying else .off

/-- R16. -/
def Scanner.softReset (sc : Scanner) : Scanner :=
  { sc with
    claims := [], members := sc.plan, seq := buildSequence sc.plan [] false, pos := 0, converting := none }

/-- R74. -/
def Cleaning.softReset (c : Cleaning) : Cleaning := { c.enterOff with pmPwr := false }

/-- R95, R113. -/
def Drying.softReset (now : Nat) (wasOn : Bool) (d : Drying) : Drying :=
  { d with
    mode := .off, demand := false, disabled := false, phase := .lockout, offTime := now, offTank := none, onTime := none,
    startWait := none, retryWait := none, trip := none, runOn := none, failures := 0,
    lastStop := if wasOn then some ⟨.reset, now⟩ else d.lastStop, coilFrost := none, idleTimer := none, sampleTimer := none, weak := 0,
    riseRef := none, dryWeak := false, level := .normal, slot1 := none, slot2 := none, holdSet := [], deferred := [],
    roomCold := false, step := none, stepTimer := none, melt := none, warm := none }

/-- R130: a run in RUNNING ends ABORTED_RESET with its water measured, and a rest ends; failures and the latch are cleared. The held level
is kept, whatever becomes of TANK_LVL (log entry 40). -/
def Water.softReset (now : Nat) (moved : Option Nat) (w : Water) : Water :=
  let w := if w.pump.state = .running then w.endRun .abortedReset now moved else w
  { w with pumpOn := false, failures := 0, fault := false, pump := { w.pump with state := .idle, rest := none } }

/-- Every block takes its soft-reset values; no reader is notified of what becomes of a channel, so the held level is kept, also where
TANK_LVL becomes OFF (R122, R130; log entry 40) (R16, R36, R48, R59, R74, R95, R113, R130, R148, R173, R182). The Arbiter's row, ceiling and
boost values are those of R48. -/
def softBlocks (s : State) : State :=
  { softResetCheck s with
    scan := s.scan.softReset,
    chans := s.chans.map fun ch c => c.softReset (softState s.scan.plan ch),
    arb := Arbiter.atReset, fan := Fan.atReset, comp := { request := false, on := false },
    clean := s.clean.softReset, dry := s.dry.softReset s.time.uptime s.comp.on,
    water := s.water.softReset s.time.uptime s.waterMoved, serv := Service.atReset,
    link := { s.link with silence := 0, silent := false } }

/-- The soft reset: the blocks' values, the hold set built afresh from the causes that stand, the check due where it lacks a baseline, and
then the Event Latch: changes without edges, and the one entry RESET LINK_SOFT (R113, R148, R161, R165). The claim list and the demand
table are empty when it is over (R16, R48): the start conditions of the due check are tested with the next event (DEDUCED: log entry 45),
and the pump's start triggers when one of their inputs next changes (log entry 23). -/
def softReset (s : State) : State :=
  let t := softResetDue (settle (softBlocks s))
  t.setEv { t.ev with
    stored := conditions t, list := [{ id := 21, edge := .once, count := 1, cause := some .linkSoft }], lastCause := .linkSoft }

end Sys2Proof.Machine
end

