-- ==== Sys2Proof/Machine/Tick.lean ====
section
/-! DEFINITION. The 1 Hz job tick: what every block counts, and what each makes of it (R28, R47, R50 to R54, R67 to R71, R80 to R94,
R100, R101, R120, R126, R135, R142, R145, R150, R151, R173, R182). -/

namespace Sys2Proof.Machine

/-! The counts -/

/-- Uptime goes up by 1, from its largest value back to 0, the trim of the period that begins is the one stored, and its slots and the tests of
its tick are still to come (R149 to R151). -/
def TimeBase.advance (trim : Int) (t : TimeBase) : TimeBase :=
  { uptime := if t.uptime = maxCount32 then 0 else t.uptime + 1, trim := trim, slot := 0, tested := false }

/-- A 32-bit count of seconds, saturating. -/
def countUp (n : Nat) : Nat := min maxCount32 (n + 1)

/-- The drying record's counts: every running timer, and in RUNNING the second just run (R81, R82, R86, R89, R92, R93, R94, R100,
R101). `counting` is the phase RUNNING at level 0, `weak` the dry-weak watch. -/
def Drying.advance (counting weak : Bool) (d : Drying) : Drying :=
  { d with
    onTime := d.onTime.map fun n => min 65534 (n + 1),
    startWait := tickUp d.startWait, retryWait := tickUp d.retryWait, trip := tickUp d.trip, runOn := tickUp d.runOn,
    coilFrost := tickUp d.coilFrost, idleTimer := tickUp d.idleTimer, sampleTimer := tickUp d.sampleTimer,
    stepTimer := tickUp d.stepTimer, warm := tickUp d.warm, melt := tickDown d.melt,
    runSince := if counting then countUp d.runSince else d.runSince,
    totalRun := if counting then countUp d.totalRun else d.totalRun,
    weak := if counting && weak then countUp d.weak else d.weak }

/-- The cleaning timers (R67, R69, R71). -/
def Cleaning.advance (pm : ChanState) (c : Cleaning) : Cleaning :=
  { c with
    stepDown := if pm = .qualified then tickUp c.stepDown else c.stepDown,
    unqualified := if pm = .qualifying then tickUp c.unqualified else c.unqualified }

/-- The water timers (R120, R126). -/
def Water.advance (w : Water) : Water :=
  { w with
    drainClear := tickUp w.drainClear,
    pump := { w.pump with
      elapsed := if w.pump.state = .running then w.pump.elapsed + 1 else w.pump.elapsed, rest := tickUp w.pump.rest } }

/-- The warm-up of PM (R28). -/
def Chan.advance (c : Chan) : Chan := { c with warmup := tickDown c.warmup }

/-- The silence timer (R173). -/
def Link.advance (limit : Nat) (l : Link) : Link :=
  if 0 < limit ∧ l.silent = false then { l with silence := l.silence + 1 } else l

/-- The seconds remaining of a service run (R182). -/
def ServiceRun.advance (r : ServiceRun) : ServiceRun := { r with remaining := tickDown r.remaining }

/-- Every block's counts at a tick. -/
def tickCounts (s : State) : State :=
  { s with
    time := s.time.advance s.setup.trim,
    arb := { s.arb with boostRemaining := tickDown s.arb.boostRemaining },
    fan := s.fan.advance,
    dry := s.dry.advance (decide s.runningNormal) (decide s.weakWatch),
    clean := s.clean.advance (s.chan .pm).state,
    chans := { s.chans with pm := s.chans.pm.advance },
    water := s.water.advance,
    filt := { s.filt with check := { s.filt.check with retry := tickUp s.filt.check.retry, timer := tickUp s.filt.check.timer } },
    serv := { s.serv with run := s.serv.run.map ServiceRun.advance },
    link := s.link.advance s.setup.linkSilence }

/-! The Drying Controller's tick -/

/-- The start wait has run out with the fan not ready (R82). -/
abbrev State.waitTimedOut (s : State) : Prop := s.startWaiting ∧ reached 30 s.dry.startWait = true ∧ ¬ s.fanReady

/-- The retry wait is over (R82). -/
abbrev State.retryOver (s : State) : Prop := s.idleNormal ∧ reached 30 s.dry.retryWait = true

/-- The retry wait ends (R82). -/
def endRetry (s : State) : State := s.setDry { s.dry with retryWait := none }

/-- The idle timer has run out (R92). -/
abbrev State.idleOver (s : State) : Prop := s.idleNormal ∧ reached 1200 s.dry.idleTimer = true

/-- The sample timer has run out (R92). -/
abbrev State.sampleOver (s : State) : Prop := s.idleNormal ∧ reached 60 s.dry.sampleTimer = true

/-- On time 3 in STARTING with no current seen (R83). -/
abbrev State.noCurrentAt3 (s : State) : Prop :=
  s.dry.level = .normal ∧ s.dry.phase = .starting ∧ s.dry.onTime = some 3 ∧ s.dry.currentSeen = false

/-- On time 5 in STARTING (R83). -/
abbrev State.judgeAt5 (s : State) : Prop := s.dry.level = .normal ∧ s.dry.phase = .starting ∧ s.dry.onTime = some 5

/-- The trip timer has run out in RUNNING (R87). -/
abbrev State.tripped (s : State) : Prop := s.runningNormal ∧ reached 3 s.dry.trip = true

/-- The coil frost timer has run out in RUNNING (R93). -/
abbrev State.coilFrosted (s : State) : Prop := s.runningNormal ∧ reached 120 s.dry.coilFrost = true

/-- The run-on is over (R89). -/
abbrev State.runOnOver (s : State) : Prop := s.dry.level = .normal ∧ s.dry.phase = .stopping ∧ reached 60 s.dry.runOn = true

/-- The lockout ends at this tick (R80, R84, R96). -/
abbrev State.lockoutDue (s : State) : Prop :=
  s.dry.level = .normal ∧ s.dry.phase = .lockout ∧ s.dry.disabled = false ∧ s.lockoutOver

/-- LOCKOUT becomes IDLE (R80). -/
def endLockout (s : State) : State := s.setDry { s.dry with phase := .idle }

/-- RUNNING, after the counts, in the order of R86: trip, demand loss and frost. R94's dry-weak test is none of R86's steps; it stands before
them, so that a tick that ends in a trip or a loss of demand makes it too (DESIGN CHOICE: log entry 49). -/
def runningTick (s : State) : State :=
  let s := testWeak s
  if s.tripped then compFailure .overcurrent s
  else if s.demandLost then enterStopping .demand s
  else if s.coilFrosted ∨ s.periodicFrost = true then enterDefrost s
  else s

/-- What the Drying Controller makes of a tick already counted. Step STOP ends with the rest of the event (R100). -/
def dryTick (s : State) : State :=
  match s.dry.level with
  | .hold => s
  | .defrost => if s.inMelt ∧ s.meltOver = true then endDefrost s.meltReason s else s
  | .normal =>
    match s.dry.phase with
    | .idle =>
      if s.waitTimedOut then timeoutAttempt s
      else if s.retryOver then endRetry s
      else if s.idleOver then beginSample s
      else if s.sampleOver then endSample s
      else s
    | .starting => if s.noCurrentAt3 then compFailure .noCurrent s else if s.judgeAt5 then judgeStart s else s
    | .running => runningTick s
    | .stopping => if s.runOnOver then endRunOn s else s
    | .lockout => if s.lockoutDue then endLockout s else s

/-! The other blocks' ticks -/

/-- The boost has run out (R47). -/
def boostTick (s : State) : State := if s.arb.boostRemaining = some 0 then expireBoost s else s

/-- The check's retry wait is over (R142). -/
abbrev State.checkRetryOver (s : State) : Prop := s.filt.check.state = .due ∧ reached 600 s.filt.check.retry = true

/-- The check's retry wait ends (R142). -/
def endCheckRetry (s : State) : State := s.setCheck { s.filt.check with retry := none }

/-- Filter Accounts' tick for the check (R142, R145). -/
def checkTick (s : State) : State :=
  if s.checkRetryOver then endCheckRetry s
  else if s.checkMinuteOut then endCheck s.checkFailure s
  else s

/-- The drain clear timer has run out (R120). -/
abbrev State.drainCleared (s : State) : Prop := s.water.drainBlocked = true ∧ reached 60 s.water.drainClear = true

/-- The drain's tick (R120). -/
def drainTick (s : State) : State := if s.drainCleared then clearDrain s else s

/-- The link has been silent for LINK_SILENCE (R173). -/
abbrev State.silenceOver (s : State) : Prop :=
  0 < s.setup.linkSilence ∧ s.link.silent = false ∧ s.setup.linkSilence ≤ s.link.silence

/-- LINK_SILENT becomes true (R173). -/
def raiseSilence (s : State) : State := s.setLink { s.link with silent := true }

/-- The Link Port's tick (R173). -/
def silenceTick (s : State) : State := if s.silenceOver then raiseSilence s else s

/-- The sensor's warm-up is over (R28). -/
def warmTick (s : State) : State := changeChan .pm Chan.warmedUp s

/-! The whole tick -/

/-- The first part of a tick: the counts, the Fan Drive and the Drying Controller (log entry 10). At a tick that is a stall and a test of the
Drying Controller too, the test finds COMP_ON still on, and the dropout of R91 follows it with the rest of the event (DESIGN CHOICE: log
entry 55). -/
def tickEarly (s : State) : State := dryTick (fanTick (tickCounts s))

/-- The second part of a tick: the other blocks (log entry 10). -/
def tickLate (s : State) : State :=
  silenceTick (serviceTick (checkTick (pumpTick (drainTick (cleanTick (warmTick (boostTick s)))))))

/-- The tests of the tick have been made (log entry 51). -/
def closeTick (s : State) : State := s.setTime { s.time with tested := true }

/-- One job tick. It is one event for the order in which it hands on to the Event Latch (R158, log entry 28). -/
def jobTick (s : State) : State := closeTick (inIdOrder s (event tickLate (event tickEarly s)))

end Sys2Proof.Machine
end

