-- ==== Sys2Proof/Machine/Replies.lean ====
section
/-! DEFINITION. The layouts of R181: the STATUS pages, the channel and filter records, and the other reply payloads. -/

namespace Sys2Proof.Machine

/-! Codes: the position of a value in the list of its rule (R181) -/

def ChanState.code : ChanState → Nat
  | .off => 0 | .warming => 1 | .qualifying => 2 | .qualified => 3 | .faulted => 4

def RowKind.code : RowKind → Nat
  | .atLeast => 0 | .exactly => 1

def FanState.code : FanState → Nat
  | .off => 0 | .spinningUp => 1 | .running => 2 | .stalled => 3 | .fault => 4

def CleanMode.code : CleanMode → Nat
  | .off => 0 | .manual => 1 | .auto => 2

def Basis.code : Basis → Nat
  | .band => 0 | .floor => 1 | .carried => 2 | .fallback => 3

def DryMode.code : DryMode → Nat
  | .off => 0 | .target => 1 | .continuous => 2

def Phase.code : Phase → Nat
  | .idle => 0 | .lockout => 1 | .starting => 2 | .running => 3 | .stopping => 4

def FailReason.code : FailReason → Nat
  | .noCurrent => 0 | .overcurrent => 1

def FailPhase.code : FailPhase → Nat
  | .starting => 0 | .running => 1

def StopReason.code : StopReason → Nat
  | .demand => 0 | .modeOff => 1 | .airflowShort => 2 | .noCurrent => 3 | .overcurrent => 4 | .interlock => 5 | .hold => 6
  | .defrost => 7 | .reset => 8

def DryLevel.code : DryLevel → Nat
  | .normal => 0 | .defrost => 1 | .hold => 2

def ContextKind.code : ContextKind → Nat
  | .idle => 0 | .run => 1 | .defrost => 2

def RunPhase.code : RunPhase → Nat
  | .starting => 0 | .running => 1 | .stopping => 2

def DefrostStep.code : DefrostStep → Nat
  | .stop => 0 | .melt => 1

def DefrostReason.code : DefrostReason → Nat
  | .normal => 0 | .timeout => 1

def TankState.code : TankState → Nat
  | .out => 0 | .normal => 1 | .nearFull => 2 | .full => 3

def PumpState.code : PumpState → Nat
  | .idle => 0 | .running => 1 | .resting => 2

def PumpKind.code : PumpKind → Nat
  | .level => 0 | .blind => 1 | .host => 2 | .service => 3

def PumpResult.code : PumpResult → Nat
  | .done => 0 | .blindDone => 1 | .timeout => 2 | .noFlow => 3 | .cancelled => 4 | .abortedTankOut => 5 | .abortedReset => 6

def SlotState.code : SlotState → Nat
  | .empty => 0 | .fitted => 1 | .nearWorn => 2 | .worn => 3 | .clogged => 4

def RatingKind.code : RatingKind → Nat
  | .load => 0 | .volume => 1 | .hours => 2

def WornReason.code : WornReason → Nat
  | .load => 0 | .volume => 1 | .hours => 2 | .pressure => 3

def CheckState.code : CheckState → Nat
  | .idle => 0 | .due => 1 | .waiting => 2 | .sampling => 3

def DueCause.code : DueCause → Nat
  | .interval => 0 | .host => 1 | .fit => 2

def CheckResult.code : CheckResult → Nat
  | .done => 0 | .failedNoLevel => 1 | .failedNoReading => 2 | .preempted => 3 | .removed => 4 | .abortedReset => 5

def Edge.code : Edge → Nat
  | .rise => 0 | .fall => 1 | .once => 2

def ResetCause.code : ResetCause → Nat
  | .powerOn => 0 | .pin => 1 | .supply => 2 | .linkFull => 3 | .linkSoft => 4

def ServiceKind.code : ServiceKind → Nat
  | .fan => 0 | .compressor => 1 | .pump => 2

def PartState.code : PartState → Nat
  | .setup => 0 | .active => 1

def Drain.code : Drain → Nat
  | .bucket => 0 | .pump => 1 | .gravity => 2

/-- The mask of a set of hold causes, in the order of R103. -/
def causeMask (l : List HoldCause) : Nat := maskOf (HoldCause.all.map fun c => decide (c ∈ l))

/-! Parts of several layouts -/

/-- An event entry (R160, R181). -/
def EventEntry.bytes (e : EventEntry) : List Byte :=
  field 1 e.id ++ field 1 e.edge.code ++ field 1 e.count ++ fieldOpt 1 (e.cause.map ResetCause.code)

/-- A demand row (R39). -/
def Row.bytes (r : Row) : List Byte := flagField r.active ++ field 1 r.kind.code ++ field 1 r.level ++ field 4 r.takenAt

/-- A channel summary (page 0). -/
def Chan.summary (c : Chan) : List Byte :=
  field 1 c.state.code ++ valueField c.value ++ field 1 c.faultCount ++ flagField c.subst ++ fieldOpt 1 c.warmup

/-- The channel of a claimant, if it holds a claim. -/
def claimOf (who : Claimant) (l : List Claim) : Option Channel := (l.find? fun c => decide (c.claimant = who)).map Claim.channel

/-- A claimant's two bytes: the channel, and whether the claim is effective (R7, R8). A claim is effective exactly when its channel is
in the emphasized list. -/
def claimBytes (l : List Claim) (who : Claimant) : List Byte :=
  match claimOf who l with
  | some c => field 1 c.num ++ flagField (decide (c ∈ emphasized l))
  | none => [255#8, 0#8]

/-- The service run (R182). -/
def serviceBytes (r : Option ServiceRun) : List Byte :=
  fieldOpt 1 (r.map fun r => r.kind.code) ++ fieldOpt 1 (r.bind fun r => r.level)
    ++ fieldOpt 1 (r.bind fun r => r.channel.map Channel.num) ++ fieldOpt 2 (r.bind fun r => r.remaining)

/-- A context slot (R97). What an empty slot carries behind its kind is log entry 19's. -/
def contextBytes : Option Context → List Byte
  | some c =>
    field 1 c.kind.code ++ fieldOpt 1 (c.phase.map RunPhase.code) ++ field 4 c.offTime ++ field 4 c.runSince ++ field 4 c.cycleStart
      ++ valueField c.cycleTank ++ fieldOpt 1 (c.step.map DefrostStep.code) ++ fieldOpt 2 c.melt ++ flagField c.endAfter
  | none =>
    fieldOpt 1 none ++ fieldOpt 1 none ++ fieldOpt 4 none ++ fieldOpt 4 none ++ fieldOpt 4 none ++ valueField none ++ fieldOpt 1 none
      ++ fieldOpt 2 none ++ flagField false

/-- The pump run record as page 3 carries it (R123). -/
def PumpRun.bytes (p : PumpRun) : List Byte :=
  field 1 p.state.code ++ fieldOpt 1 (p.kind.map PumpKind.code) ++ fieldOpt 4 p.startedAt ++ valueField p.startLevel
    ++ valueField p.latestLevel ++ field 1 p.elapsed ++ fieldOpt 1 p.rest ++ fieldOpt 1 (p.result.map PumpResult.code)
    ++ fieldOpt 4 p.endedAt ++ fieldOpt 2 p.moved

/-- The check record as page 3 carries it (R142). -/
def Check.bytes (c : Check) : List Byte :=
  field 1 c.state.code ++ fieldOpt 1 (c.dueCause.map DueCause.code) ++ flagField c.requested ++ fieldOpt 2 c.retry
    ++ fieldOpt 2 c.timer ++ field 1 c.samples ++ field 4 c.runCount ++ fieldOpt 1 (c.lastResult.map CheckResult.code)
    ++ fieldOpt 4 c.lastEnded

/-- A slot's three bytes on page 3. -/
def SlotRec.summary (r : SlotRec) : List Byte :=
  field 1 r.state.code ++ fieldOpt 1 (r.wornReason.map WornReason.code) ++ flagField r.coverOpened

/-! The STATUS pages (R179, R181) -/

/-- Page 0, the part. -/
def statusPart (s : State) : List Byte :=
  field 1 0 ++ field 1 s.link.part.code ++ field 4 s.time.uptime ++ field 1 s.ev.lastCause.code ++ field 1 s.ev.list.length
    ++ flagField s.ev.attention ++ field 3 (maskOf s.ev.stored)
    ++ field 2 s.link.overlong ++ field 2 s.link.truncated ++ field 2 s.link.badCheck ++ field 2 s.link.overrun
    ++ field 1 (if s.supplyLow then 1 else 0) ++ field 2 s.setup.supplyWarn
    ++ Channel.all.flatMap (fun c => (s.chan c).summary)
    ++ field 1 (emphasized s.scan.claims).length
    ++ fieldOpt 1 ((emphasized s.scan.claims)[0]?.map Channel.num) ++ fieldOpt 1 ((emphasized s.scan.claims)[1]?.map Channel.num)
    ++ claimBytes s.scan.claims .dry ++ claimBytes s.scan.claims .water ++ claimBytes s.scan.claims .filter
    ++ claimBytes s.scan.claims .service ++ serviceBytes s.serv.run

/-- Page 1, airflow and cleaning. -/
def statusAir (s : State) : List Byte :=
  field 1 1 ++ s.arb.clean.bytes ++ s.arb.dry.bytes ++ s.arb.filter.bytes ++ s.arb.service.bytes ++ s.arb.boost.bytes
    ++ fieldOpt 2 s.arb.boostRemaining ++ field 1 s.arb.hostCeiling ++ field 1 s.ceiling ++ field 1 s.arb.granted
    ++ flagField s.water.cover.filtered ++ flagField s.comp.on ++ field 1 s.fan.state.code ++ field 2 s.fan.target
    ++ fieldOpt 2 s.fan.measured ++ flagField s.fan.atLevel ++ field 1 s.fan.settleCount ++ field 1 s.fan.stalls
    ++ flagField s.fan.fault ++ field 1 s.clean.mode.code ++ fieldOpt 1 s.clean.manualLevel ++ fieldOpt 1 s.clean.autoLevel
    ++ fieldOpt 1 (s.clean.basis.map Basis.code) ++ fieldOpt 1 s.clean.band ++ fieldOpt 2 s.clean.stepDown
    ++ fieldOpt 2 s.clean.unqualified ++ flagField s.clean.pmPwr

/-- Page 2, drying. -/
def statusDrying (s : State) : List Byte :=
  let d := s.dry
  field 1 2 ++ field 1 d.mode.code ++ field 1 d.setpoint ++ flagField d.demand ++ flagField d.disabled ++ field 1 d.phase.code
    ++ field 4 d.offTime ++ fieldOpt 2 d.onTime ++ fieldOpt 1 d.startWait ++ fieldOpt 1 d.retryWait ++ flagField d.currentSeen
    ++ valueField d.lastStart ++ fieldOpt 1 d.trip ++ fieldOpt 1 d.runOn ++ field 1 d.failures
    ++ fieldOpt 1 (d.lastFailure.map fun f => f.reason.code) ++ fieldOpt 1 (d.lastFailure.map fun f => f.phase.code)
    ++ fieldOpt 4 (d.lastFailure.map fun f => f.time) ++ fieldOpt 1 (d.lastStop.map fun l => l.reason.code)
    ++ fieldOpt 4 (d.lastStop.map fun l => l.time) ++ field 4 d.runSince ++ fieldOpt 1 d.coilFrost ++ fieldOpt 2 d.idleTimer
    ++ fieldOpt 1 d.sampleTimer ++ field 4 d.weak ++ valueField d.riseRef ++ flagField d.dryWeak ++ field 4 d.starts
    ++ field 4 d.totalRun ++ field 1 d.level.code ++ field 2 (causeMask d.holdSet) ++ field 2 (causeMask d.deferred)
    ++ fieldOpt 1 (d.step.map DefrostStep.code) ++ fieldOpt 1 d.stepTimer ++ fieldOpt 2 d.melt ++ fieldOpt 1 d.warm
    ++ field 2 d.defrostCount ++ fieldOpt 4 (d.lastDefrost.map fun l => l.enteredAt)
    ++ fieldOpt 4 (d.lastDefrost.bind fun l => l.ended.map fun e => e.endedAt)
    ++ fieldOpt 1 (d.lastDefrost.bind fun l => l.ended.map fun e => e.reason.code)
    ++ fieldOpt 2 (d.lastDefrost.bind fun l => l.ended.map fun e => e.used)
    ++ contextBytes d.slot1 ++ contextBytes d.slot2

/-- Page 3, water and filters. -/
def statusWater (s : State) : List Byte :=
  let w := s.water
  field 1 3 ++ flagField w.tankIn.filtered ++ flagField w.float.filtered ++ flagField w.cover.filtered ++ field 1 w.tank.code
    ++ flagField w.drainBlocked ++ fieldOpt 1 w.drainClear ++ valueField w.held ++ field 4 w.total ++ field 2 w.emptyings
    ++ field 2 w.unknownEmptyings ++ field 2 w.unknownRuns ++ field 1 w.failures ++ flagField w.fault ++ flagField w.pumpOn
    ++ w.pump.bytes ++ s.filt.slots.pre.summary ++ s.filt.slots.fine.summary ++ s.filt.slots.carbon.summary ++ s.filt.check.bytes

/-- A STATUS page. -/
def statusPage (s : State) : Nat → List Byte
  | 0 => statusPart s
  | 1 => statusAir s
  | 2 => statusDrying s
  | _ => statusWater s

/-! Records -/

/-- The window: oldest first, unused places absent. -/
def windowBytes (w : List Int) : List Byte :=
  valueField w[0]? ++ valueField w[1]? ++ valueField w[2]? ++ valueField w[3]?

/-- The marks of a last sample; without one, 0 (R37, R181; log entry 39). -/
def sampleMarks : Option Sample → Nat
  | some l => maskOf [l.rail, l.substituted, l.accepted]
  | none => 0

/-- The channel record (R37, R181). -/
def channelBytes (ch : Channel) (c : Chan) : List Byte :=
  field 1 ch.num ++ field 1 c.state.code ++ fieldOpt 2 (c.last.bind fun l => l.raw) ++ valueField (c.last.map fun l => l.value)
    ++ field 1 (sampleMarks c.last) ++ fieldOpt 4 (c.last.map fun l => l.takenAt) ++ field 1 c.window.length ++ windowBytes c.window
    ++ field 1 c.run ++ field 1 c.threshold ++ field 1 c.faultCount ++ field 1 c.faultLimit ++ valueField c.value
    ++ fieldOpt 4 c.lastAccepted ++ flagField c.subst ++ fieldOpt 1 c.warmup

/-- The filter record (R141, R181). -/
def slotBytes (n : Slot) (r : SlotRec) : List Byte :=
  field 1 n.num ++ field 1 r.state.code ++ field 1 r.tag.length ++ (r.tag ++ List.replicate (12 - r.tag.length) 0#8)
    ++ field 1 r.ratingKind.code ++ field 4 r.rated ++ field 1 r.capture ++ field 4 r.load ++ field 4 r.volume ++ field 4 r.runSecs
    ++ field 4 r.fittedAt ++ valueField r.baseline ++ valueField r.latest ++ field 2 r.riseLimit
    ++ fieldOpt 1 (r.wornReason.map WornReason.code) ++ flagField r.coverOpened

/-! Other replies (log entry 6 where R181 tables no layout) -/

/-- The reply to CLEAN_MODE (R60). -/
def cleanBytes (s : State) : List Byte :=
  field 1 s.clean.mode.code ++ fieldOpt 1 s.clean.claimed ++ fieldOpt 1 (s.clean.basis.map Basis.code) ++ fieldOpt 1 s.clean.band
    ++ flagField s.clean.pmPwr

/-- The end-after flag of a context slot; an empty slot has none (R97, R111). -/
def endAfterByte (c : Option Context) : List Byte := fieldOpt 1 (c.map fun c => if c.endAfter then 1 else 0)

/-- The reply to DRY_MODE (R75, R111). -/
def dryBytes (s : State) : List Byte :=
  field 1 s.dry.mode.code ++ field 1 s.dry.setpoint ++ flagField s.dry.demand ++ field 1 s.dry.phase.code ++ field 1 s.dry.level.code
    ++ endAfterByte s.dry.slot1 ++ endAfterByte s.dry.slot2

/-- The reply to FAN_CEILING (R41). -/
def ceilingBytes (s : State) : List Byte := field 1 s.arb.hostCeiling ++ field 1 s.ceiling ++ field 1 s.arb.granted

/-- The reply to FAN_BOOST (R46). -/
def boostBytes (s : State) : List Byte := s.arb.boost.bytes ++ fieldOpt 2 s.arb.boostRemaining

/-- The reply to WATCH_SET (R159). -/
def watchBytes (s : State) : List Byte :=
  field 3 (maskOf s.ev.riseEn) ++ field 3 (maskOf s.ev.fallEn) ++ field 1 (maskOf s.ev.onceEn) ++ flagField s.ev.attention

/-- The reply to SUBST_SET: the record (R187). -/
def substBytes : Option Subst → List Byte
  | none => []
  | some r =>
    match r.kind with
    | .fixed v => field 1 0 ++ signedField r.next ++ signedField v
    | .ramp start step stop again =>
      field 1 1 ++ signedField r.next ++ signedField start ++ signedField step ++ signedField stop ++ flagField again

/-- The reply to IDENT (R178). -/
def identBytes : List Byte :=
  field 2 14961 ++ field 2 460 ++ field 1 1 ++ (List.range 8).map Config.serialByte

/-- The reply to EVENTS_READ: number, more flag, entries (R162, R181). -/
def eventsBytes (l : List EventEntry) : List Byte :=
  field 1 (l.take 24).length ++ flagField (decide (24 < l.length)) ++ (l.take 24).flatMap EventEntry.bytes

end Sys2Proof.Machine
end

