-- ==== Sys2Proof/Machine/Setup.lean ====
section
/-! DEFINITION. The setup items: the checks of SETUP_SET in their order, the effect of an accepted value, the value in force, and the
checks of START (R5, R28 to R30, R38, R40, R42, R64, R65, R67, R70, R72, R76, R98, R115, R131, R135, R142, R151, R156, R173, R175,
R176). -/

namespace Sys2Proof.Machine

/-- An item's rule refuses a value with BAD_VALUE and this detail, or lets it pass. -/
abbrev Detail := Option Nat

/-- The ids of the table of R176. -/
def itemKnown (id : Nat) : Bool := (decide (1 ≤ id) && decide (id ≤ 10)) || (decide (16 ≤ id) && decide (id ≤ 30))

/-- FIXED items (R176). -/
def itemFixed (id : Nat) : Bool := decide (id ≤ 10)

/-- The length of a value is the item's (R5, R64, R176). -/
def itemLength (id n : Nat) : Bool :=
  match id with
  | 4 => decide (n = 2) | 6 => decide (n = 4) | 16 => decide (1 ≤ n) && decide (n ≤ 8)
  | 20 => decide (n % 5 = 0) && decide (n ≤ 30)
  | 23 => decide (n = 2) | 26 => decide (n = 2) | 27 => decide (n = 2) | 28 => decide (n = 2) | 29 => decide (n = 2)
  | 30 => decide (n = 4) | _ => decide (n = 1)

/-! Values -/

/-- Detail 0 unless the test holds. -/
def need (ok : Bool) : Detail := if ok then none else some 0

/-- A number lies in a closed range. -/
def within (lo hi n : Nat) : Bool := decide (lo ≤ n) && decide (n ≤ hi)

/-- The first fault of a plan: an entry above 7, or a repeated one, at its position (R5). -/
def planFault (seen : List Nat) (pos : Nat) : List Byte → Detail
  | [] => none
  | b :: bs => if 7 < b.toNat ∨ b.toNat ∈ seen then some pos else planFault (b.toNat :: seen) (pos + 1) bs

/-- The channels a list of entries names. -/
def planOf (bs : List Byte) : List Channel := bs.filterMap fun b => Channel.ofNum b.toNat

/-- The bands that the bytes of a value spell (R176). -/
def bandsOf : List Byte → List Band
  | a :: b :: c :: d :: e :: rest => ⟨leValue [a, b], leValue [c, d], e.toNat⟩ :: bandsOf rest
  | _ => []

/-- The bytes of a band list. -/
def bandBytes (l : List Band) : List Byte := l.flatMap fun b => field 2 b.enter ++ field 2 b.leave ++ field 1 b.level

/-- A band is at fault, alone or after the band before it (R64). -/
def bandFault (before : Option Band) (b : Band) : Bool :=
  !(within 1 1000 b.enter && within 0 999 b.leave && within 1 12 b.level && decide (b.leave < b.enter)) ||
    match before with
    | some p => decide (b.enter ≤ p.enter) || decide (b.level < p.level)
    | none => false

/-- The number of the first band at fault (R64). -/
def bandsFault (before : Option Band) (k : Nat) : List Band → Detail
  | [] => none
  | b :: bs => if bandFault before b then some k else bandsFault (some b) (k + 1) bs

/-- LEVEL_TABLE's checks in the order of R38. -/
def levelFault (index : Nat) (value : List Byte) : Detail :=
  if index = 0 ∨ 12 < index then some 0
  else if within 200 3000 (leValue (value.take 2)) = false then some 1
  else if within 10 1000 (leValue (value.drop 2)) = false then some 2
  else none

/-- The checks of CHANNEL_THRESHOLD and CHANNEL_FAULT_LIMIT: the channel, then the value (R30). -/
def channelItemFault (index hi n : Nat) : Detail :=
  if 8 ≤ index ∧ index ≠ 255 then some 0 else if within 1 hi n = false then some 1 else none

/-- The item's own check of index and value (step 4 of R176). -/
def itemFault (id index : Nat) (value : List Byte) : Detail :=
  let n := leValue value
  match id with
  | 1 => need (within 0 1 n)
  | 2 => need (within 0 2 n)
  | 3 => need (within 0 7 n)
  | 4 => need (within 1000 8000 n && decide (n % 100 = 0))
  | 5 => need (decide (n = 5) || decide (n = 20))
  | 6 => levelFault index value
  | 7 => need (within 1 12 n)
  | 8 => need (within 1 12 n)
  | 9 => need (within 1 12 n)
  | 10 => need (within 0 2 n)
  | 16 => planFault [] 0 value
  | 17 => channelItemFault index 8 n
  | 18 => channelItemFault index 254 n
  | 19 => need (within 5 120 n)
  | 20 => bandsFault none 1 (bandsOf value)
  | 21 => need (within 0 12 n)
  | 22 => need (within 1 12 n)
  | 23 => need (within 10 900 n)
  | 24 => need (within 0 12 n)
  | 25 => need (within 1 12 n)
  | 26 => need (within 1950 2250 n && decide (n % 50 = 0))
  | 27 => need (decide (n = 0) || within 10 600 n)
  | 28 => need (decide (-400 ≤ signedValue value) && decide (signedValue value ≤ 400))
  | 29 => need (within 0 500 n)
  | 30 => need (within 3600 604800 n)
  | _ => some 255

/-! Effects -/

/-- The drain mode of a code (R115). -/
def drainOf : Nat → Drain
  | 0 => .bucket | 1 => .pump | _ => .gravity

/-- Entry `level` (1 to 12) of the level table replaced (R38). -/
def Setup.setLevel (u : Setup) (level : Nat) (e : LevelEntry) : Setup := { u with levels := u.levels.set (level - 1) e }

/-- The channels an index names: one, or all eight for 255 (R30, R31, R188). The rules take the eight "in turn"; that the turn goes from channel
0 to channel 7 is the model's choice (DESIGN CHOICE: log entry 52). -/
def indexChannels (index : Nat) : List Channel :=
  match Channel.ofNum index with | some c => [c] | none => Channel.all

/-- The effect of an accepted value, but for what follows from it in the same event. -/
def applyItem (id index : Nat) (value : List Byte) (s : State) : State :=
  let n := leValue value
  let u := s.setup
  match id with
  | 1 => s.setSetup { u with optCompressor := decide (n = 1) }
  | 2 => applyDrain (drainOf n) s
  | 3 => s.setSetup { u with optSlots := { pre := n.testBit 0, fine := n.testBit 1, carbon := n.testBit 2 } }
  | 4 => s.setSetup { u with tankCapacity := n }
  | 5 => s.setSetup { u with floatReject := n }
  | 6 => s.setSetup (u.setLevel index ⟨leValue (value.take 2), leValue (value.drop 2)⟩)
  | 7 => s.setSetup { u with dryFloor := n }
  | 8 => s.setSetup { u with defrostLevel := n }
  | 9 => s.setSetup { u with refLevel := n }
  | 10 => s.setSetup { u with pressureSlot := (Slot.ofNum n).getD .fine }
  | 16 => s.setScan { s.scan with plan := planOf value }
  | 17 => eachInTurn (fun ch => changeChan ch fun c => c.setThreshold n) (indexChannels index) s
  | 18 => eachInTurn (fun ch => changeChan ch fun c => c.setLimit n) (indexChannels index) s
  | 19 => s.setSetup { u with pmWarmup := n }
  | 20 =>
    let u := { u with bands := bandsOf value }
    changeClean (fun c => c.newBands u (s.qual .pm)) (s.setSetup u)
  | 21 =>
    let u := { u with autoFloor := n }
    changeClean (fun c => c.newFloor u) (s.setSetup u)
  | 22 =>
    let u := { u with cleanFallback := n }
    changeClean (fun c => c.newFallback u) (s.setSetup u)
  | 23 => s.setSetup { u with stepDownHold := n }
  | 24 => s.setSetup { u with lowCeiling := n }
  | 25 => s.setSetup { u with clogCap := n }
  | 26 => s.setSetup { u with supplyWarn := n }
  | 27 => s.setSetup { u with linkSilence := n }
  | 28 => s.setSetup { u with trim := signedValue value }
  | 29 => s.setSetup { u with defaultPm := n }
  | 30 => testInterval (s.setSetup { u with checkInterval := n })
  | _ => s

/-! The values in force -/

/-- The threshold or fault limit of the channel an index names; 255 stands for all eight, which are then alike (R30). -/
def indexChan (s : State) (index : Nat) : Chan := s.chan ((Channel.ofNum index).getD .rh)

/-- The value in force of an item, as SETUP_GET returns it (R176). -/
def itemValue (id index : Nat) (s : State) : List Byte :=
  let u := s.setup
  match id with
  | 1 => flagField u.optCompressor
  | 2 => field 1 u.optDrain.code
  | 3 => field 1 (maskOf [u.optSlots.pre, u.optSlots.fine, u.optSlots.carbon])
  | 4 => field 2 u.tankCapacity
  | 5 => field 1 u.floatReject
  | 6 => field 2 (s.levelEntry index).speed ++ field 2 (s.levelEntry index).flow
  | 7 => field 1 u.dryFloor
  | 8 => field 1 u.defrostLevel
  | 9 => field 1 u.refLevel
  | 10 => field 1 u.pressureSlot.num
  | 16 => s.scan.plan.flatMap fun c => field 1 c.num
  | 17 => field 1 (indexChan s index).threshold
  | 18 => field 1 (indexChan s index).faultLimit
  | 19 => field 1 u.pmWarmup
  | 20 => bandBytes u.bands
  | 21 => field 1 u.autoFloor
  | 22 => field 1 u.cleanFallback
  | 23 => field 2 u.stepDownHold
  | 24 => field 1 u.lowCeiling
  | 25 => field 1 u.clogCap
  | 26 => field 2 u.supplyWarn
  | 27 => field 2 u.linkSilence
  | 28 => signedField u.trim
  | 29 => field 2 u.defaultPm
  | 30 => field 4 u.checkInterval
  | _ => []

/-- The index of SETUP_GET is checked by the item's rule (R30, R38). -/
def getFault (id index : Nat) : Detail :=
  if (id = 17 ∨ id = 18) ∧ 8 ≤ index then some 0 else if id = 6 ∧ 12 < index then some 0 else none

/-! START (R175) -/

/-- Strictly ascending. -/
def ascending : List Nat → Bool
  | a :: b :: r => decide (a < b) && ascending (b :: r)
  | _ => true

/-- What START asks of a band after the band before it. -/
def bandOrdered (before : Option Band) (b : Band) : Bool :=
  decide (b.leave < b.enter) &&
    match before with
    | some p => decide (p.enter < b.enter) && decide (p.level ≤ b.level)
    | none => true

/-- What START asks of the bands in force. -/
def bandsOrdered : Option Band → List Band → Bool
  | _, [] => true
  | before, b :: bs => bandOrdered before b && bandsOrdered (some b) bs

/-- The first item that START finds at fault, by its id (R175). -/
def startFault (u : Setup) : Detail :=
  if (ascending (u.levels.map LevelEntry.speed) && ascending (u.levels.map LevelEntry.flow)) = false then some 6
  else if u.defrostLevel < u.dryFloor then some 8
  else if bandsOrdered none u.bands = false then some 20
  else none

end Sys2Proof.Machine
end

