-- ==== Sys2Proof/Machine/Requests.lean ====
section
/-! DEFINITION. What each request does in the block that owns it, and the reply it earns: the refusals in the order of its rule's table,
the effect as one event, and the reply from the state as it stands after (R169 to R188). -/

namespace Sys2Proof.Machine

/-- What a request earns: acceptance with a payload, or a refusal with its detail (R170). -/
inductive Reply
  | ok (payload : List Byte)
  | no (reason : Reason) (detail : Nat)
  deriving DecidableEq, Repr

/-- The state after the request, and its reply. -/
abbrev Taken := State × Reply

/-- A refused request changes nothing (R170). -/
def refuse (reason : Reason) (detail : Nat) (s : State) : Taken := (s, .no reason detail)

/-- An accepted request: its effect with everything that follows, and then the reply (R169). -/
def accept (effect : State → State) (payload : State → List Byte) (s : State) : Taken :=
  (event effect s, .ok (payload (event effect s)))

/-- An accepted request whose rule fixes the reply right behind its own effect, ahead of what follows from it (R143). -/
def acceptAhead (effect : State → State) (payload : State → List Byte) (s : State) : Taken :=
  (event effect s, .ok (payload (effect s)))

/-- An accepted request that only reads. -/
def answerWith (payload : List Byte) (s : State) : Taken := (s, .ok payload)

/-! Setup, part state and identity -/

/-- SETUP_SET (R176). -/
def takeSetupSet (item index : Byte) (value : List Byte) (s : State) : Taken :=
  let id := item.toNat
  if itemKnown id = false then refuse .badValue 255 s
  else if itemLength id value.length = false then refuse .badLength 0 s
  else if itemFixed id = true ∧ s.isActive then refuse .wrongState 0 s
  else match itemFault id index.toNat value with
    | some d => refuse .badValue d s
    | none => accept (applyItem id index.toNat value) (fun t => item :: index :: itemValue id index.toNat t) s

/-- SETUP_GET (R176). -/
def takeSetupGet (item index : Byte) (s : State) : Taken :=
  if itemKnown item.toNat = false then refuse .badValue 255 s
  else match getFault item.toNat index.toNat with
    | some d => refuse .badValue d s
    | none => answerWith (item :: index :: itemValue item.toNat index.toNat s) s

/-- The part becomes ACTIVE (R174). -/
def becomeActive (s : State) : State := s.setLink { s.link with part := .active }

/-- START (R175). -/
def takeStart (s : State) : Taken :=
  if s.isActive then refuse .wrongState 0 s
  else match startFault s.setup with
    | some d => refuse .badSetup d s
    | none => accept becomeActive (fun t => field 1 t.link.part.code) s

/-- RESET: what follows the reply is kept beside it (R177). -/
def takeReset (scope : Byte) (s : State) : Taken :=
  if 1 < scope.toNat then refuse .badValue 0 s
  else if scope.toNat = 1 ∧ ¬ s.isActive then refuse .wrongState 0 s
  else answerWith [scope] s

/-! Cleaning, drying and airflow -/

/-- The cleaning mode of a code (R171). -/
def cleanModeOf : Nat → Option CleanMode
  | 0 => some .off | 1 => some .manual | 2 => some .auto | _ => none

/-- CLEAN_MODE (R61). -/
def takeCleanMode (mode level : Byte) (s : State) : Taken :=
  if ¬ s.isActive then refuse .wrongState 0 s
  else match cleanModeOf mode.toNat with
    | none => refuse .badValue 0 s
    | some m =>
      if m = .manual ∧ within 1 12 level.toNat = false then refuse .badValue 1 s
      else accept (applyCleanMode m level.toNat) cleanBytes s

/-- The drying mode of a code (R171). -/
def dryModeOf : Nat → Option DryMode
  | 0 => some .off | 1 => some .target | 2 => some .continuous | _ => none

/-- DRY_MODE (R77). -/
def takeDryMode (mode setpoint : Byte) (s : State) : Taken :=
  if ¬ s.isActive then refuse .wrongState 0 s
  else if s.setup.optCompressor = false then refuse .notFitted 0 s
  else match dryModeOf mode.toNat with
    | none => refuse .badValue 0 s
    | some m =>
      if m = .target ∧ within 35 70 setpoint.toNat = false then refuse .badValue 1 s
      else accept (applyDryMode m setpoint.toNat) dryBytes s

/-- The host ceiling is set (R41). -/
def setHostCeiling (level : Nat) (s : State) : State := s.setArb { s.arb with hostCeiling := level }

/-- FAN_CEILING (R41). -/
def takeFanCeiling (level : Byte) (s : State) : Taken :=
  if ¬ s.isActive then refuse .wrongState 0 s
  else if 12 < level.toNat then refuse .badValue 0 s
  else accept (setHostCeiling level.toNat) ceilingBytes s

/-- The boost is set or released (R46). -/
def applyBoost (level duration : Nat) (s : State) : State :=
  if level = 0 then expireBoost s
  else
    let s := setRow .boost .atLeast level s
    s.setArb { s.arb with boostRemaining := if duration = 0 then none else some duration }

/-- FAN_BOOST (R46). -/
def takeFanBoost (level : Byte) (duration : Half) (s : State) : Taken :=
  if ¬ s.isActive then refuse .wrongState 0 s
  else if 12 < level.toNat then refuse .badValue 0 s
  else if 0 < level.toNat ∧ 14400 < duration.toNat then refuse .badValue 1 s
  else accept (applyBoost level.toNat duration.toNat) boostBytes s

/-! Reading -/

/-- STATUS (R179). -/
def takeStatus (page : Byte) (s : State) : Taken :=
  if 3 < page.toNat then refuse .badValue 0 s else answerWith (statusPage s page.toNat) s

/-- CHANNEL_GET (R37). -/
def takeChannelGet (channel : Byte) (s : State) : Taken :=
  match Channel.ofNum channel.toNat with
  | none => refuse .badValue 0 s
  | some c => answerWith (channelBytes c (s.chan c)) s

/-- EVENTS_READ: the first 24 entries go to the reply and leave the list (R162). -/
def takeEventsRead (s : State) : Taken :=
  (s.setEv { s.ev with list := s.ev.list.drop 24 }, .ok (eventsBytes s.ev.list))

/-- The enables a mask gives to `n` events (R159, R171). -/
def enablesOf (n mask : Nat) : List Bool := (List.range n).map fun k => mask.testBit k

/-- The enables and the attention enable of an accepted WATCH_SET; RESET stays enabled (R159). -/
def applyWatch (rise fall once : Nat) (attention : Bool) (s : State) : State :=
  s.setEv { s.ev with
    riseEn := enablesOf 21 rise, fallEn := enablesOf 21 fall, onceEn := (enablesOf 6 once).set 0 true, attention := attention }

/-- WATCH_SET (R159). -/
def takeWatchSet (rise fall : BitVec 24) (once attention : Byte) (s : State) : Taken :=
  if 2 ^ 21 ≤ rise.toNat then refuse .badValue 0 s
  else if 2 ^ 21 ≤ fall.toNat then refuse .badValue 1 s
  else if 2 ^ 6 ≤ once.toNat then refuse .badValue 2 s
  else if 1 < attention.toNat then refuse .badValue 3 s
  else
    let t := applyWatch rise.toNat fall.toNat once.toNat (decide (attention.toNat = 1)) s
    (t, .ok (watchBytes t))

/-! Clearing faults -/

/-- The error counters at 0 (R172). -/
def clearCounters (s : State) : State :=
  s.setLink { s.link with overlong := 0, truncated := 0, badCheck := 0, overrun := 0 }

/-- FAULT_CLEAR (R172). -/
def takeFaultClear (target channel : Byte) (s : State) : Taken :=
  let reply := fun (_ : State) => [target, channel]
  match target.toNat with
  | 0 => accept clearFan reply s
  | 1 => accept clearCompressor reply s
  | 2 => accept clearPump reply s
  | 3 => (clearCounters s, .ok (reply s))
  | 4 =>
    if 8 ≤ channel.toNat ∧ channel.toNat ≠ 255 then refuse .badValue 0 s
    else accept (eachInTurn clearChannel (indexChannels channel.toNat)) reply s
  | _ => refuse .badValue 1 s

/-! Filters -/

/-- The slot is in OPT_SLOTS (R131). -/
def State.slotFitted (s : State) (n : Slot) : Bool := s.setup.optSlots.get n

/-- The rating kind of a code (R171). -/
def ratingOf : Nat → Option RatingKind
  | 0 => some .load | 1 => some .volume | 2 => some .hours | _ => none

/-- The largest rated amount of a kind (R132). -/
def RatingKind.most : RatingKind → Nat
  | .load => 100000 | .volume => 1000000 | .hours => 20000

/-- The printable set: space to tilde (R138). -/
def printable (b : Byte) : Bool := decide (32 ≤ b.toNat) && decide (b.toNat ≤ 126)

/-- The signed number of a 2-byte field (R181). -/
def halfValue (h : Half) : Int := h.toInt

/-- The restored baseline: absent without one, or where the field carries 0x8000 (R138, R181). -/
def restoredBaseline : Restore → Option Int
  | .accountsAndBaseline _ _ _ b => if b = 32768#16 then none else some (halfValue b)
  | _ => none

/-- The restored load, volume and run seconds, 0 where no restore block was given (R139). -/
def restoredAmounts : Restore → Nat × Nat × Nat
  | .absent => (0, 0, 0)
  | .accounts l v r => (l.toNat, v.toNat, r.toNat)
  | .accountsAndBaseline l v r _ => (l.toNat, v.toNat, r.toNat)

/-- The rise limit a request gives: 0 stands for 80.0 Pa (R138). -/
def fitLimit (p : FitParams) : Nat := if p.riseLimit.toNat = 0 then 800 else p.riseLimit.toNat

/-- The checks of the fit's values, rating kind known, in the order of R138. -/
def fitFault (kind : RatingKind) (p : FitParams) : Detail :=
  if within 1 kind.most p.rated.toNat = false then some 2
  else if 100 < p.capture.toNat then some 3
  else if p.riseLimit.toNat ≠ 0 ∧ within 100 3000 p.riseLimit.toNat = false then some 4
  else if p.tag.all printable = false then some 5
  else match (restoredBaseline p.restore) with
    | some b => if 6000 < b then some 6 else none
    | none => none

/-- The record of an accepted fit, before wear is evaluated (R139 steps 1 to 5). -/
def fitRecord (kind : RatingKind) (p : FitParams) (now : Nat) : SlotRec :=
  { state := .fitted, tag := p.tag, ratingKind := kind, rated := p.rated.toNat, capture := p.capture.toNat,
    load := (restoredAmounts p.restore).1, volume := (restoredAmounts p.restore).2.1, runSecs := (restoredAmounts p.restore).2.2, fittedAt := now,
    baseline := (restoredBaseline p.restore), latest := none, riseLimit := fitLimit p, wornReason := none, coverOpened := false, loadRem := 0,
    volumeRem := 0 }

/-- An accepted fit (R139). -/
def applyFit (n : Slot) (kind : RatingKind) (p : FitParams) (s : State) : State :=
  let pressure := decide (n = s.setup.pressureSlot)
  let s := s.setSlot n ((fitRecord kind p s.time.uptime).evaluate pressure)
  if pressure then fitCheck (restoredBaseline p.restore).isSome s else s

/-- FILTER_FIT (R138). A tag length above 12 is the Link Port's to refuse (R171). -/
def takeFilterFit (p : FitParams) (s : State) : Taken :=
  if 12 < p.tag.length then refuse .badLength 0 s
  else if ¬ s.isActive then refuse .wrongState 0 s
  else match Slot.ofNum p.slot.toNat with
    | none => refuse .badValue 0 s
    | some n =>
      if s.slotFitted n = false then refuse .notFitted 0 s
      else match ratingOf p.ratingKind.toNat with
        | none => refuse .badValue 1 s
        | some kind =>
          match fitFault kind p with
          | some d => refuse .badValue d s
          | none =>
            if (s.slot n).coverOpened = false then refuse .coverNotOpened 0 s
            else if s.checkBusy then refuse .busy 0 s
            else accept (applyFit n kind p) (fun t => slotBytes n (t.slot n)) s

/-- An accepted removal (R140). -/
def applyRemove (n : Slot) (s : State) : State :=
  if (s.slot n).state = .empty then s
  else
    let t := s.setSlot n (SlotRec.emptyWith (s.slot n).coverOpened)
    if n = s.setup.pressureSlot then removeCheck t else t

/-- FILTER_REMOVE (R140). -/
def takeFilterRemove (slot : Byte) (s : State) : Taken :=
  if ¬ s.isActive then refuse .wrongState 0 s
  else match Slot.ofNum slot.toNat with
    | none => refuse .badValue 0 s
    | some n =>
      if s.slotFitted n = false then refuse .notFitted 0 s
      else accept (applyRemove n) (fun t => slotBytes n (t.slot n)) s

/-- FILTER_GET (R141). -/
def takeFilterGet (slot : Byte) (s : State) : Taken :=
  match Slot.ofNum slot.toNat with
  | none => refuse .badValue 0 s
  | some n => answerWith (slotBytes n (s.slot n)) s

/-- FILTER_CHECK: the reply carries the check record as it stands after the start test, so that a check that starts shows WAITING, also where
fan and FILTER_DP are ready and it samples by the end of the event (R143). -/
def takeFilterCheck (s : State) : Taken :=
  if ¬ s.isActive then refuse .wrongState 0 s
  else if (s.slot s.setup.pressureSlot).state = .empty then refuse .notFitted 0 s
  else if s.checkBusy then refuse .busy 0 s
  else acceptAhead requestCheck (fun t => t.filt.check.bytes) s

/-! Pump -/

/-- PUMP_RUN (R128). -/
def takePumpRun (s : State) : Taken :=
  if ¬ s.isActive then refuse .wrongState 0 s
  else if s.setup.optDrain ≠ .pump then refuse .notFitted 0 s
  else if s.water.fault then refuse .faultLatched 0 s
  else if s.water.pump.state ≠ .idle then refuse .busy 0 s
  else if s.water.tankIn.filtered = false then refuse .wrongState 1 s
  else if s.supplyLow then refuse .wrongState 2 s
  else accept (startPump .host) (fun t => t.water.pump.bytes) s

/-- A run in RUNNING ends CANCELLED (R129). -/
def cancelPump (s : State) : State := if s.pumping then endPump .cancelled s else s

/-- PUMP_CANCEL (R129). -/
def takePumpCancel (s : State) : Taken :=
  if ¬ s.isActive then refuse .wrongState 0 s
  else if s.setup.optDrain ≠ .pump then refuse .notFitted 0 s
  else accept cancelPump (fun t => t.water.pump.bytes) s

/-! Substitution -/

/-- The checks of a RAMP (steps 4 to 6 of R187). -/
def rampFault (c : Channel) (start step stop : Int) (again : Nat) : Detail :=
  if (c.inSpan start && c.inSpan stop) = false then some 2
  else if step = 0 ∨ start = stop ∨ (0 < step ∧ stop < start) ∨ (step < 0 ∧ start < stop) then some 3
  else if 1 < again then some 4
  else none

/-- SUBST_SET (R187): `params` is what follows the kind byte. A step field of 0x8000 is the step -32768, and no absent one (DESIGN CHOICE: log
entry 54). -/
def takeSubstSet (channel kind : Byte) (params : List Byte) (s : State) : Taken :=
  match Channel.ofNum channel.toNat with
  | none => refuse .badValue 0 s
  | some c =>
    if 1 < kind.toNat then refuse .badValue 1 s
    else if kind.toNat = 0 then
      if params.length ≠ 2 then refuse .badLength 0 s
      else if c.inSpan (signedValue params) = false then refuse .badValue 2 s
      else accept (applySubst c (.fixed (signedValue params)) (signedValue params)) (fun t => substBytes (t.substOf c)) s
    else if params.length ≠ 7 then refuse .badLength 0 s
    else
      let start := signedValue (params.take 2)
      let step := signedValue ((params.drop 2).take 2)
      let stop := signedValue ((params.drop 4).take 2)
      let again := leValue (params.drop 6)
      match rampFault c start step stop again with
      | some d => refuse .badValue d s
      | none => accept (applySubst c (.ramp start step stop (decide (again = 1))) start) (fun t => substBytes (t.substOf c)) s

/-- SUBST_CLEAR (R188). Its reply is free (log entry 5). -/
def takeSubstClear (channel : Byte) (s : State) : Taken :=
  if 8 ≤ channel.toNat ∧ channel.toNat ≠ 255 then refuse .badValue 0 s
  else accept (eachInTurn clearSubst (indexChannels channel.toNat)) (fun _ => Config.substClearReply channel) s

/-! Service runs -/

/-- The reply of SERVICE_RUN and SERVICE_STOP: the record (R182, R183). -/
def runReply (s : State) : List Byte := serviceBytes s.serv.run

/-- SERVICE_RUN FAN behind the length check (R183, R184). -/
def takeFanRun (level duration channel : Nat) (s : State) : Taken :=
  if 12 < level then refuse .badValue 1 s
  else if within 1 600 duration = false then refuse .badValue 2 s
  else if 7 < channel ∧ channel ≠ 255 then refuse .badValue 3 s
  else if s.comp.on = true ∨ s.dry.phase = .starting then refuse .wrongState 0 s
  else accept (startFanRun level duration (Channel.ofNum channel)) runReply s

/-- SERVICE_RUN COMPRESSOR behind the length check (R183, R185). -/
def takeCompressorRun (duration : Nat) (s : State) : Taken :=
  if s.setup.optCompressor = false then refuse .notFitted 0 s
  else if within 60 900 duration = false then refuse .badValue 2 s
  else if s.dry.disabled then refuse .faultLatched 0 s
  else accept (startCompressorRun duration) runReply s

/-- SERVICE_RUN PUMP behind the length check (R183, R186). -/
def takeServicePump (s : State) : Taken :=
  if s.setup.optDrain ≠ .pump then refuse .notFitted 0 s
  else if s.water.fault then refuse .faultLatched 0 s
  else if s.water.pump.state ≠ .idle then refuse .busy 0 s
  else if s.water.tankIn.filtered = false then refuse .wrongState 1 s
  else if s.supplyLow then refuse .wrongState 2 s
  else accept startPumpRun runReply s

/-- The number of parameter bytes of a kind of service run (R183). -/
def serviceLength : Nat → Nat
  | 0 => 4 | 1 => 2 | _ => 0

/-- SERVICE_RUN (R183): `params` is what follows the kind byte. -/
def takeServiceRun (kind : Byte) (params : List Byte) (s : State) : Taken :=
  if ¬ s.isActive then refuse .wrongState 0 s
  else if 2 < kind.toNat then refuse .badValue 0 s
  else if params.length ≠ serviceLength kind.toNat then refuse .badLength 0 s
  else if s.serv.run.isSome then refuse .busy 0 s
  else match kind.toNat with
    | 0 => takeFanRun (leValue (params.take 1)) (leValue ((params.drop 1).take 2)) (leValue (params.drop 3)) s
    | 1 => takeCompressorRun (leValue params) s
    | _ => takeServicePump s

/-- SERVICE_STOP (R182). -/
def takeServiceStop (s : State) : Taken :=
  if ¬ s.isActive then refuse .wrongState 0 s else accept stopService runReply s

/-! All requests -/

/-- A request is taken to the block that owns it (R169, R171). -/
def take : Request → State → Taken
  | .ident, s => answerWith identBytes s
  | .setupSet item index value, s => takeSetupSet item index value s
  | .setupGet item index, s => takeSetupGet item index s
  | .start, s => takeStart s
  | .reset scope, s => takeReset scope s
  | .cleanMode mode level, s => takeCleanMode mode level s
  | .dryMode mode setpoint, s => takeDryMode mode setpoint s
  | .fanCeiling level, s => takeFanCeiling level s
  | .fanBoost level duration, s => takeFanBoost level duration s
  | .status page, s => takeStatus page s
  | .channelGet channel, s => takeChannelGet channel s
  | .eventsRead, s => takeEventsRead s
  | .watchSet rise fall once attention, s => takeWatchSet rise fall once attention s
  | .faultClear target channel, s => takeFaultClear target channel s
  | .filterFit p, s => takeFilterFit p s
  | .filterRemove slot, s => takeFilterRemove slot s
  | .filterGet slot, s => takeFilterGet slot s
  | .filterCheck, s => takeFilterCheck s
  | .pumpRun, s => takePumpRun s
  | .pumpCancel, s => takePumpCancel s
  | .substSet channel kind params, s => takeSubstSet channel kind params s
  | .substClear channel, s => takeSubstClear channel s
  | .serviceRun kind params, s => takeServiceRun kind params s
  | .serviceStop, s => takeServiceStop s
  | .refusedByLink _ reason, s => refuse reason 0 s

end Sys2Proof.Machine
end

