-- ==== Sys2Proof/Machine/Link.lean ====
section
/-! DEFINITION. The Link Port: the receiver, the check, the request order, the replies and the silence timer (R167 to R173, R177). -/

namespace Sys2Proof.Machine

/-! Kinds and frames -/

/-- The KIND of a request (R171). -/
def kindOf : Request → Byte
  | .ident => 1#8
  | .setupSet _ _ _ => 2#8
  | .setupGet _ _ => 3#8
  | .start => 4#8
  | .reset _ => 5#8
  | .cleanMode _ _ => 16#8
  | .dryMode _ _ => 17#8
  | .fanCeiling _ => 18#8
  | .fanBoost _ _ => 19#8
  | .status _ => 32#8
  | .channelGet _ => 33#8
  | .eventsRead => 34#8
  | .watchSet _ _ _ _ => 35#8
  | .faultClear _ _ => 36#8
  | .filterFit _ => 48#8
  | .filterRemove _ => 49#8
  | .filterGet _ => 50#8
  | .filterCheck => 51#8
  | .pumpRun => 52#8
  | .pumpCancel => 53#8
  | .substSet _ _ _ => 64#8
  | .substClear _ => 65#8
  | .serviceRun _ _ => 66#8
  | .serviceStop => 67#8
  | .refusedByLink kind _ => kind

/-- The reason codes of R170. -/
def reasonCode : Reason → Nat
  | .unknownKind => 1 | .badLength => 2 | .badValue => 3 | .wrongState => 4 | .busy => 5 | .notFitted => 6 | .coverNotOpened => 7
  | .badSetup => 8 | .faultLatched => 9 | .frameError => 10

/-- The reply frame: KIND plus 0x80 with the rule's payload, or 0x7F with the echoed KIND, the reason code and the detail (R170). -/
def replyFrame (kind : Byte) : Reply → List Byte
  | .ok payload => frameOf (kind + 128#8) payload
  | .no reason detail => frameOf 127#8 [kind, byteOf (reasonCode reason), byteOf detail]

/-- What follows an answered request when its reply has been sent (R177). -/
def followUp (r : Request) (reply : Reply) : AfterReply :=
  match r, reply with
  | .reset scope, .ok _ => if scope.toNat = 0 then .fullReset else .softReset
  | _, _ => .nothing

/-- A request enters the answer place, is taken at once, and its reply is built from the state after it (R169). -/
def takeRequest (r : Request) (s : State) : State :=
  let t := take r s
  t.1.setLink { t.1.link with
    answer := some { request := r, reply := replyFrame (kindOf r) t.2, after := followUp r t.2 } }

/-- A count of errors, up to 65,535 (R172). -/
def countError (n : Nat) : Nat := min maxCount16 (n + 1)

/-- A complete frame finds its place: the answer place, the held place, or none (R169). -/
def place (r : Request) (s : State) : State :=
  if s.link.answer = none then takeRequest r s
  else if s.link.held = none then s.setLink { s.link with held := some r }
  else s.setLink { s.link with overrun := countError s.link.overrun }

/-- The silence timer is set to 0, and LINK_SILENT is false (R173). -/
def endSilence (s : State) : State := s.setLink { s.link with silence := 0, silent := false }

/-- A valid frame sets the silence timer to 0 and ends LINK_SILENT, before the request is taken (R173). Where LINK_SILENT was not
true, nothing follows. -/
def clearSilence (s : State) : State := if s.link.silent then event endSilence s else endSilence s

/-- The arrival of a request's valid frame (R169, R173). -/
def arrive (r : Request) (s : State) : State := place r (clearSilence s)

/-- A frame with a wrong check is counted, and answered in its place with FRAME_ERROR (R168). -/
def arriveBad (s : State) : State :=
  place (.refusedByLink 0#8 .frameError) (s.setLink { s.link with badCheck := countError s.link.badCheck })

/-! Parsing a payload (R171). A wrong length is refused with BAD_LENGTH. -/

/-- A kind that carries nothing. -/
def noPayload (r : Request) (kind : Byte) : List Byte → Request
  | [] => r
  | _ => .refusedByLink kind .badLength

/-- A kind that carries one byte. -/
def onePayload (r : Byte → Request) (kind : Byte) : List Byte → Request
  | [a] => r a
  | _ => .refusedByLink kind .badLength

/-- A kind that carries two bytes. -/
def twoPayload (r : Byte → Byte → Request) (kind : Byte) : List Byte → Request
  | [a, b] => r a b
  | _ => .refusedByLink kind .badLength

/-- FAN_BOOST's level and duration. -/
def parseBoost (kind : Byte) : List Byte → Request
  | [level, a, b] => .fanBoost level (BitVec.ofNat 16 (leValue [a, b]))
  | _ => .refusedByLink kind .badLength

/-- WATCH_SET's masks and enable. -/
def parseWatch (kind : Byte) : List Byte → Request
  | [a, b, c, d, e, f, once, attention] =>
    .watchSet (BitVec.ofNat 24 (leValue [a, b, c])) (BitVec.ofNat 24 (leValue [d, e, f])) once attention
  | _ => .refusedByLink kind .badLength

/-- The four bytes at a place, as a field. -/
def quadAt (k : Nat) (bs : List Byte) : Quad := BitVec.ofNat 32 (leValue ((bs.drop k).take 4))

/-- The restore block of FILTER_FIT, from its marker on; `none` where length and marker do not match. -/
def parseRestore : List Byte → Option Restore
  | [] => none
  | marker :: bs =>
    match marker.toNat with
    | 0 => if bs.length = 0 then some .absent else none
    | 1 => if bs.length = 12 then some (.accounts (quadAt 0 bs) (quadAt 4 bs) (quadAt 8 bs)) else none
    | 2 =>
      if bs.length = 14 then
        some (.accountsAndBaseline (quadAt 0 bs) (quadAt 4 bs) (quadAt 8 bs) (BitVec.ofNat 16 (leValue (bs.drop 12))))
      else none
    | _ => none

/-- FILTER_FIT, with the whole length check against tag length and marker (R171). -/
def parseFit (kind : Byte) : List Byte → Request
  | slot :: rating :: r0 :: r1 :: r2 :: r3 :: capture :: l0 :: l1 :: tagLength :: rest =>
    if 12 < tagLength.toNat ∨ rest.length ≤ tagLength.toNat then .refusedByLink kind .badLength
    else match parseRestore (rest.drop tagLength.toNat) with
      | none => .refusedByLink kind .badLength
      | some restore =>
        .filterFit { slot := slot, ratingKind := rating, rated := BitVec.ofNat 32 (leValue [r0, r1, r2, r3]), capture := capture,
                     riseLimit := BitVec.ofNat 16 (leValue [l0, l1]), tag := rest.take tagLength.toNat, restore := restore }
  | _ => .refusedByLink kind .badLength

/-- SETUP_SET and SUBST_SET: a LEN below 2 is refused here, the rest by the kind's own rule (R170). -/
def parseTwoAndMore (r : Byte → Byte → List Byte → Request) (kind : Byte) : List Byte → Request
  | a :: b :: rest => r a b rest
  | _ => .refusedByLink kind .badLength

/-- SERVICE_RUN: a LEN of 0 is refused here (R170). -/
def parseRun (kind : Byte) : List Byte → Request
  | a :: rest => .serviceRun a rest
  | [] => .refusedByLink kind .badLength

/-- The request of a valid frame, or the Link Port's own refusal of it (R170, R171). -/
def parse (kind : Byte) (payload : List Byte) : Request :=
  match kind.toNat with
  | 1 => noPayload .ident kind payload
  | 2 => parseTwoAndMore .setupSet kind payload
  | 3 => twoPayload .setupGet kind payload
  | 4 => noPayload .start kind payload
  | 5 => onePayload .reset kind payload
  | 16 => twoPayload .cleanMode kind payload
  | 17 => twoPayload .dryMode kind payload
  | 18 => onePayload .fanCeiling kind payload
  | 19 => parseBoost kind payload
  | 32 => onePayload .status kind payload
  | 33 => onePayload .channelGet kind payload
  | 34 => noPayload .eventsRead kind payload
  | 35 => parseWatch kind payload
  | 36 => twoPayload .faultClear kind payload
  | 48 => parseFit kind payload
  | 49 => onePayload .filterRemove kind payload
  | 50 => onePayload .filterGet kind payload
  | 51 => noPayload .filterCheck kind payload
  | 52 => noPayload .pumpRun kind payload
  | 53 => noPayload .pumpCancel kind payload
  | 64 => parseTwoAndMore .substSet kind payload
  | 65 => onePayload .substClear kind payload
  | 66 => parseRun kind payload
  | 67 => noPayload .serviceStop kind payload
  | _ => .refusedByLink kind .unknownKind

/-! The receiver (R167) -/

def setReceiver (r : Receiver) (s : State) : State := s.setLink { s.link with receiver := r }

/-- The check of a frame (R168). -/
def checkOf (kind len : Byte) (payload : List Byte) : Byte := crc8 (kind :: len :: payload)

/-- The CHECK byte arrives: the frame is complete, and the receiver returns to hunting (R167, R168). -/
def completeFrame (kind len : Byte) (payload : List Byte) (check : Byte) (s : State) : State :=
  let s := setReceiver .hunting s
  if check = checkOf kind len payload then arrive (parse kind payload) s else arriveBad s

/-- A frame is discarded for its LEN (R167). -/
def discardOverlong (s : State) : State :=
  s.setLink { s.link with receiver := .hunting, overlong := countError s.link.overlong }

/-- A frame is discarded at the end of the 25 ms (R167). -/
def discardTruncated (s : State) : State :=
  s.setLink { s.link with receiver := .hunting, truncated := countError s.link.truncated }

/-- A byte arrives (R167). -/
def receiveByte (b : Byte) (s : State) : State :=
  match s.link.receiver with
  | .hunting => if b = 195#8 then setReceiver .kind s else s
  | .kind => setReceiver (.len b) s
  | .len kind => if 200 < b.toNat then discardOverlong s else setReceiver (.payload kind b []) s
  | .payload kind len bytes =>
    if bytes.length < len.toNat then setReceiver (.payload kind len (bytes ++ [b])) s else completeFrame kind len bytes b s

/-- The CHECK byte of a frame arrives: a byte like any other, but no event where no CHECK is awaited. -/
def receiveCheck (b : Byte) (s : State) : State :=
  match s.link.receiver with
  | .payload kind len bytes => if bytes.length = len.toNat then completeFrame kind len bytes b s else s
  | _ => s

/-- A LEN byte above 200 arrives, no event where no LEN is awaited. -/
def receiveOverlong (b : Byte) (s : State) : State :=
  match s.link.receiver with
  | .len _ => if 200 < b.toNat then discardOverlong s else s
  | _ => s

/-- The gap inside a frame runs out, no event while hunting. -/
def expireGap (s : State) : State := if s.link.receiver = .hunting then s else discardTruncated s

/-! The end of a reply (R169, R177) -/

/-- The answer place empties, and the held request moves into it and is taken (R169). -/
def takeHeld (s : State) : State :=
  let t := s.setLink { s.link with answer := none, held := none }
  match s.link.held with
  | some r => takeRequest r t
  | none => t

/-- After the reply to RESET FULL: the link asserts its reset source (R153, R177). -/
def linkFullReset (s : State) : State := assertSource .linkFull { s.rst with srcLink := true } s

/-- After the reply to RESET SOFT: the soft reset, and then the held request (R177). -/
def linkSoftReset (s : State) : State := takeHeld (softReset s)

/-- The last byte of the reply has left LINK_TX (R169, R177). -/
def replySent (s : State) : State :=
  match s.link.answer with
  | none => s
  | some a =>
    match a.after with
    | .nothing => takeHeld s
    | .softReset => linkSoftReset s
    | .fullReset => linkFullReset s

/-- The answer in place awaits the given follow-up. -/
def State.awaits (s : State) (x : AfterReply) : Bool :=
  match s.link.answer with
  | some a => decide (a.after = x)
  | none => false

end Sys2Proof.Machine
end

