-- ==== Sys2Proof/Machine/Live.lean ====
section
/-! DEFINITION. How a command reaches the part: nothing acts in reset (R153), and an event that is not due does not happen (log entry 9). -/

namespace Sys2Proof.Machine

/-- A command that the part takes when it is not in reset; in reset it has no effect (R153). -/
def live (f : State → State) (s : State) : Result := .next (if s.rst.inReset then s else f s)

/-- An event of the part's own, which comes about only where its rule says so (log entry 9). -/
def whenDue (test : State → Prop) [DecidablePred test] (f : State → State) (s : State) : Result :=
  live (fun s => if test s then event f s else s) s

/-- A part of the tick as a step of its own: a test that its rule makes at the tick alone, due only while the tests of a counted tick are still
to be made. JOB_TICK makes them all (log entries 9, 10 and 51). -/
def whenTicking (test : State → Prop) [DecidablePred test] (f : State → State) (s : State) : Result :=
  whenDue (fun s => s.time.tested = false ∧ test s) f s

end Sys2Proof.Machine
end

