-- ==== Sys2Proof/Machine/AirEvents.lean ====
section
/-! DEFINITION. The events of the Airflow Arbiter, the Fan Drive and the Cleaning Controller (R47, R50 to R54, R67, R69, R71). -/

namespace Sys2Proof.Machine

/-- BOOST_EXPIRY (R47). -/
def execBoostExpiry (s : State) : Result := whenDue (fun s => s.arb.boostRemaining = some 0) expireBoost s

/-- TACH_EDGE (R50, R51): a rising edge, `period` nanoseconds after the one before it. -/
def execTachEdge (period : Nat) (s : State) : Result :=
  live (event fun s => s.setFan (s.fan.takeEdge period)) s

/-- FAN_STALL (R53). -/
def execFanStall (s : State) : Result := whenDue (fun s => s.fan.stallDue = true) (fun s => s.setFan s.fan.stall) s

/-- FAN_RETRY (R54). -/
def execFanRetry (s : State) : Result :=
  whenDue (fun s => s.fan.retryDue = true) (fun s => s.setFan (s.fan.retry s.arb.granted)) s

/-- STALL_COUNT_EXPIRY (R51). -/
def execStallCountExpiry (s : State) : Result :=
  whenDue (fun s => s.fan.stallsExpire = true) (fun s => s.setFan { s.fan with stalls := 0 }) s

/-- CLEAN_STEP_DOWN (R67). -/
def execCleanStepDown (s : State) : Result := whenTicking (fun s => s.stepDownDue = true) stepDown s

/-- CARRIED_STEP_DOWN (R71). -/
def execCarriedStepDown (s : State) : Result := whenTicking (fun s => s.carriedDue = true) carriedStepDown s

/-- CLEAN_FALLBACK_TIMEOUT (R69). -/
def execCleanFallbackTimeout (s : State) : Result := whenDue (fun s => s.fallbackDue = true) cleanFallback s

end Sys2Proof.Machine
end

