-- ==== Sys2Proof/Machine/CheckEvents.lean ====
section
/-! DEFINITION. The events of the pressure check and of the service run (R142, R144, R145, R182). -/

namespace Sys2Proof.Machine

/-- CHECK_START (R144). -/
def execCheckStart (s : State) : Result := whenDue (fun s => s.checkMayStart) startCheck s

/-- CHECK_RETRY_END (R142, R144). -/
def execCheckRetryEnd (s : State) : Result := whenDue (fun s => s.checkRetryOver) endCheckRetry s

/-- CHECK_TIMEOUT (R145, R147). -/
def execCheckTimeout (s : State) : Result :=
  whenDue (fun s => s.checkMinuteOut) (fun s => endCheck s.checkFailure s) s

/-- SERVICE_RUN_EXPIRY (R182). -/
def execServiceRunExpiry (s : State) : Result := whenDue (fun s => s.serviceExpired = true) stopService s

end Sys2Proof.Machine
end

