-- ==== Sys2Proof/Machine/DryingEvents.lean ====
section
/-! DEFINITION. The drying cycle's events (R80 to R94, R100 to R102). -/

namespace Sys2Proof.Machine

/-- DEFROST_STOP_END (R100, R105). -/
def execDefrostStopEnd (s : State) : Result := whenDue (fun s => s.inStop ∧ s.stopOver = true) endStop s

/-- DEFROST_END (R101, R102). -/
def execDefrostEnd (s : State) : Result :=
  whenDue (fun s => s.inMelt ∧ s.meltOver = true) (fun s => endDefrost s.meltReason s) s

/-- COIL_FROST_TRIGGER (R93, R99). -/
def execCoilFrostTrigger (s : State) : Result := whenDue (fun s => s.coilFrosted) enterDefrost s

/-- PERIODIC_DEFROST_TRIGGER: the test at a tick in RUNNING (R93, R99). The test at a change of ROOM_T is a part of that change's event. -/
def execPeriodicDefrostTrigger (s : State) : Result :=
  whenTicking (fun s => s.runningNormal ∧ s.periodicFrost = true) enterDefrost s

/-- LOCKOUT_END (R80). -/
def execLockoutEnd (s : State) : Result := whenTicking (fun s => s.lockoutDue) endLockout s

/-- START_ATTEMPT (R81). -/
def execStartAttempt (s : State) : Result := whenDue (fun s => s.attemptDue) beginAttempt s

/-- FAN_READY_START (R82, R90). -/
def execFanReadyStart (s : State) : Result :=
  whenDue (fun s => s.startWaiting ∧ s.mayStart ∧ s.fanReady) enterStarting s

/-- START_WAIT_TIMEOUT (R82). -/
def execStartWaitTimeout (s : State) : Result := whenDue (fun s => s.waitTimedOut) timeoutAttempt s

/-- RETRY_WAIT_END (R82). -/
def execRetryWaitEnd (s : State) : Result := whenDue (fun s => s.retryOver) endRetry s

/-- CURRENT_CHECK_3 (R83, R84). -/
def execCurrentCheck3 (s : State) : Result := whenDue (fun s => s.noCurrentAt3) (compFailure .noCurrent) s

/-- START_CONFIRMATION (R83, R84). -/
def execStartConfirmation (s : State) : Result := whenDue (fun s => s.judgeAt5) judgeStart s

/-- MIN_ON_TIME_STOP (R86, R89). -/
def execMinOnTimeStop (s : State) : Result := whenDue (fun s => s.demandLost) (enterStopping .demand) s

/-- OVERCURRENT_TRIP (R84, R87). -/
def execOvercurrentTrip (s : State) : Result := whenDue (fun s => s.tripped) (compFailure .overcurrent) s

/-- RUN_ON_END (R89). -/
def execRunOnEnd (s : State) : Result := whenDue (fun s => s.runOnOver) endRunOn s

/-- IDLE_SAMPLE_START (R92). -/
def execIdleSampleStart (s : State) : Result := whenDue (fun s => s.idleOver) beginSample s

/-- IDLE_SAMPLE_END (R92). -/
def execIdleSampleEnd (s : State) : Result := whenDue (fun s => s.sampleOver) endSample s

/-- DRY_WEAK_RISE: the test at a tick in RUNNING (R94). The test at a change of RH's value is a part of the sample's event. -/
def execDryWeakRise (s : State) : Result := whenTicking (fun s => s.runningNormal ∧ s.weakDue = true) testWeak s

end Sys2Proof.Machine
end

