-- ==== Sys2Proof/Machine/HostRequests.lean ====
section
/-! DEFINITION. The host requests: each row stands for the arrival of its valid frame (R169, log entry 8). -/

namespace Sys2Proof.Machine

/-- IDENT (R178). -/
def execIdent (s : State) : Result := live (arrive .ident) s

/-- SETUP_SET (R176). -/
def execSetupSet (item : Byte) (index : Byte) (value : List Byte) (s : State) : Result := live (arrive (.setupSet item index value)) s

/-- SETUP_GET (R176). -/
def execSetupGet (item : Byte) (index : Byte) (s : State) : Result := live (arrive (.setupGet item index)) s

/-- START (R175). -/
def execStart (s : State) : Result := live (arrive .start) s

/-- RESET with scope FULL (R177). -/
def execResetFull (s : State) : Result := live (arrive (.reset 0#8)) s

/-- RESET with scope SOFT (R177). -/
def execResetSoft (s : State) : Result := live (arrive (.reset 1#8)) s

/-- CLEAN_MODE (R61). -/
def execCleanMode (mode : Byte) (level : Byte) (s : State) : Result := live (arrive (.cleanMode mode level)) s

/-- DRY_MODE (R77). -/
def execDryMode (mode : Byte) (setpoint : Byte) (s : State) : Result := live (arrive (.dryMode mode setpoint)) s

/-- FAN_CEILING (R41). -/
def execFanCeiling (level : Byte) (s : State) : Result := live (arrive (.fanCeiling level)) s

/-- FAN_BOOST (R46). -/
def execFanBoost (level : Byte) (duration : Half) (s : State) : Result := live (arrive (.fanBoost level duration)) s

/-- STATUS (R179). -/
def execStatus (page : Byte) (s : State) : Result := live (arrive (.status page)) s

/-- CHANNEL_GET (R37). -/
def execChannelGet (channel : Byte) (s : State) : Result := live (arrive (.channelGet channel)) s

/-- EVENTS_READ (R162). -/
def execEventsRead (s : State) : Result := live (arrive .eventsRead) s

/-- WATCH_SET (R159). -/
def execWatchSet (rise : BitVec 24) (fall : BitVec 24) (oneShot : Byte) (attention : Byte) (s : State) : Result := live (arrive (.watchSet rise fall oneShot attention)) s

/-- FAULT_CLEAR with target FAN (R56). -/
def execFaultClearFan (channel : Byte) (s : State) : Result := live (arrive (.faultClear 0#8 channel)) s

/-- FAULT_CLEAR with target COMPRESSOR (R85). -/
def execFaultClearCompressor (channel : Byte) (s : State) : Result := live (arrive (.faultClear 1#8 channel)) s

/-- FAULT_CLEAR with target PUMP (R127). -/
def execFaultClearPump (channel : Byte) (s : State) : Result := live (arrive (.faultClear 2#8 channel)) s

/-- FAULT_CLEAR with target LINK (R172). -/
def execFaultClearLink (channel : Byte) (s : State) : Result := live (arrive (.faultClear 3#8 channel)) s

/-- FAULT_CLEAR with target CHANNEL (R31). -/
def execFaultClearChannel (channel : Byte) (s : State) : Result := live (arrive (.faultClear 4#8 channel)) s

/-- FILTER_FIT (R138, R139). -/
def execFilterFit (fit : FitParams) (s : State) : Result := live (arrive (.filterFit fit)) s

/-- FILTER_REMOVE (R140). -/
def execFilterRemove (slot : Byte) (s : State) : Result := live (arrive (.filterRemove slot)) s

/-- FILTER_GET (R141). -/
def execFilterGet (slot : Byte) (s : State) : Result := live (arrive (.filterGet slot)) s

/-- FILTER_CHECK (R143). -/
def execFilterCheck (s : State) : Result := live (arrive .filterCheck) s

/-- PUMP_RUN (R128). -/
def execPumpRun (s : State) : Result := live (arrive .pumpRun) s

/-- PUMP_CANCEL (R129). -/
def execPumpCancel (s : State) : Result := live (arrive .pumpCancel) s

/-- SUBST_SET (R187). -/
def execSubstSet (channel : Byte) (kind : Byte) (params : List Byte) (s : State) : Result := live (arrive (.substSet channel kind params)) s

/-- SUBST_CLEAR (R188). -/
def execSubstClear (channel : Byte) (s : State) : Result := live (arrive (.substClear channel)) s

/-- SERVICE_RUN of kind FAN (R183, R184). -/
def execServiceRunFan (params : List Byte) (s : State) : Result := live (arrive (.serviceRun 0#8 params)) s

/-- SERVICE_RUN of kind COMPRESSOR (R183, R185). -/
def execServiceRunCompressor (params : List Byte) (s : State) : Result := live (arrive (.serviceRun 1#8 params)) s

/-- SERVICE_RUN of kind PUMP (R183, R186). -/
def execServiceRunPump (params : List Byte) (s : State) : Result := live (arrive (.serviceRun 2#8 params)) s

/-- SERVICE_STOP (R182). -/
def execServiceStop (s : State) : Result := live (arrive .serviceStop) s

end Sys2Proof.Machine
end

