-- ==== Sys2Proof/Machine/LinkEvents.lean ====
section
/-! DEFINITION. The events of the link (R167 to R169, R173, R177). -/

namespace Sys2Proof.Machine

/-- FRAME_COMPLETE (R167 to R169): the CHECK byte of the frame being received arrives. -/
def execFrameComplete (check : Byte) (s : State) : Result := live (receiveCheck check) s

/-- OVERLONG (R167). -/
def execOverlong (len : Byte) (s : State) : Result := live (receiveOverlong len) s

/-- TRUNCATED (R167). -/
def execTruncated (s : State) : Result := live expireGap s

/-- REPLY_SENT (R169, R177). -/
def execReplySent (s : State) : Result := live replySent s

/-- LINK_SILENT (R173). -/
def execLinkSilent (s : State) : Result := whenTicking (fun s => s.silenceOver) raiseSilence s

/-- BYTE_RECEIVED (R167). -/
def execByteReceived (byte : Byte) (s : State) : Result := live (receiveByte byte) s

end Sys2Proof.Machine
end

