-- ==== Sys2Proof/Machine/ResetEvents.lean ====
section
/-! DEFINITION. The resets and their sources (R152, R153, R165, R177). -/

namespace Sys2Proof.Machine

/-- SOFT_RESET (R165, R177): after the reply to RESET SOFT. -/
def execSoftReset (s : State) : Result := live (fun s => if s.awaits .softReset then linkSoftReset s else s) s

/-- LINK_FULL_RESET (R177): after the reply to RESET FULL. -/
def execLinkFullReset (s : State) : Result := live (fun s => if s.awaits .fullReset then linkFullReset s else s) s

/-- POWER_ON (R152, R153). -/
def execPowerOn (s : State) : Result := .next (powerUp s)

/-- RESET_N_ASSERT (R153). -/
def execResetNAssert (s : State) : Result := .next (assertSource .pin { s.rst with srcPin := true } s)

/-- SUPPLY_CUT (R152). -/
def execSupplyCut (s : State) : Result := .next (cutSupply s)

/-- SUPPLY_SENSE_CROSSING (R152). -/
def execSupplySenseCrossing (rising : Bool) (s : State) : Result := .next (crossSupply rising s)

/-- CUT_RELEASE (R152). -/
def execCutRelease (s : State) : Result := .next (releaseCut s)

/-- RESET_RELEASE (R153). -/
def execResetRelease (source : ResetSource) (s : State) : Result := .next (afterRelease (s.rst.deassert source) s)

end Sys2Proof.Machine
end

