-- ==== Sys2Proof/Machine/TimeEvents.lean ====
section
/-! DEFINITION. The Time Base and the Scanner: the job tick, the conversion slots and the samples (R3, R10, R20, R149, R150). -/

namespace Sys2Proof.Machine

/-- JOB_TICK (R149, R150): at the boundary behind the last of the 64 slots of a second. -/
def execJobTick (s : State) : Result := live (fun s => if s.tickDue then jobTick s else s) s

/-- SLOT_START (R3, R10, R11, R149): no slot starts while a conversion is under way, and none behind the last of the second. -/
def execSlotStart (s : State) : Result := whenDue (fun s => s.slotDue) startSlot s

/-- SAMPLE_DELIVERED (R3, R20): none where no conversion is under way (R4). -/
def execSampleDelivered (raw : BitVec 12) (s : State) : Result :=
  whenDue (fun s => s.scan.converting ≠ none) (deliverSample raw.toNat) s

/-- PM_WARMUP_END (R28). -/
def execPmWarmupEnd (s : State) : Result :=
  whenDue (fun s => (s.chan .pm).state = .warming ∧ (s.chan .pm).warmup = some 0) warmTick s

end Sys2Proof.Machine
end

