-- ==== Sys2Proof/Machine/WaterEvents.lean ====
section
/-! DEFINITION. The events of the filtered inputs, the tank and the pump (R116 to R120, R122, R124, R126). -/

namespace Sys2Proof.Machine

/-- The record of one filtered input. -/
def Water.input (i : InputPin) (w : Water) : Input :=
  match i with | .tankIn => w.tankIn | .float => w.float | .cover => w.cover

/-- One filtered input replaced. -/
def setInput (i : InputPin) (x : Input) (s : State) : State :=
  match i with
  | .tankIn => s.setWater { s.water with tankIn := x }
  | .float => s.setWater { s.water with float := x }
  | .cover => s.setWater { s.water with cover := x }

/-- A cover change is accepted (R55, R117, R137). -/
def acceptCover (s : State) : State :=
  let s := setInput .cover s.water.cover.accept s
  let s := s.setFan (s.fan.takeCover s.water.cover.filtered)
  if s.water.cover.filtered then setCoverFlags s else s

/-- A change of tank present is accepted (R118, R122, R126). -/
def acceptTank (s : State) : State :=
  let s := setInput .tankIn s.water.tankIn.accept s
  if s.water.tankIn.filtered then s else tankPulled s

/-- INPUT_PIN_CHANGE (R116). In reset the pin is followed, and its level counts at the end of the reset. -/
def execInputPinChange (input : InputPin) (level : Bool) (s : State) : Result :=
  .next (setInput input
    (if s.rst.inReset then { s.water.input input with pin := level } else (s.water.input input).takePin level) s)

/-- COVER_ACCEPTED (R116, R117). -/
def execCoverAccepted (s : State) : Result := whenDue (fun s => s.water.cover.accepts) acceptCover s

/-- TANK_IN_ACCEPTED (R116, R118, R122). -/
def execTankInAccepted (s : State) : Result := whenDue (fun s => s.water.tankIn.accepts) acceptTank s

/-- FLOAT_ACCEPTED (R116, R118, R120). -/
def execFloatAccepted (s : State) : Result :=
  whenDue (fun s => s.water.float.accepts) (fun s => setInput .float s.water.float.accept s) s

/-- DRAIN_CLEAR (R120). -/
def execDrainClear (s : State) : Result := whenDue (fun s => s.drainCleared) clearDrain s

/-- PUMP_RUN_START (R124). -/
def execPumpRunStart (s : State) : Result :=
  whenDue (fun s => s.pumpMayStart ∧ s.pumpTrigger.isSome) autoPump s

/-- PUMP_NO_FLOW_TEST: the test at the tick that brings elapsed to 30, and at no other moment (R126). -/
def execPumpNoFlowTest (s : State) : Result := whenTicking (fun s => s.pumpNoFlow = true) (endPump .noFlow) s

/-- PUMP_BLIND_DONE (R126). -/
def execPumpBlindDone (s : State) : Result := whenDue (fun s => s.pumpBlindDue = true) (endPump .blindDone) s

/-- PUMP_TIMEOUT (R126). -/
def execPumpTimeout (s : State) : Result := whenDue (fun s => s.pumpTimedOut = true) (endPump .timeout) s

/-- PUMP_REST_END (R126). -/
def execPumpRestEnd (s : State) : Result := whenDue (fun s => s.pumpRested = true) endRest s

end Sys2Proof.Machine
end

