-- ==== Sys2Proof/Machine/Dispatch.lean ====
section
/-! DEFINITION. The dispatch of the commands: one arm per constructor, one call of its meaning. -/

namespace Sys2Proof.Machine

/-- The effect of a command on everything but the queue. -/
def exec (i : Instr) (s : State) : Host.Outcome State Fault Refusal :=
  match i with
  | .ident => Sys2Proof.Machine.execIdent s
  | .setupSet item index value => Sys2Proof.Machine.execSetupSet item index value s
  | .setupGet item index => Sys2Proof.Machine.execSetupGet item index s
  | .start => Sys2Proof.Machine.execStart s
  | .resetFull => Sys2Proof.Machine.execResetFull s
  | .resetSoft => Sys2Proof.Machine.execResetSoft s
  | .cleanMode mode level => Sys2Proof.Machine.execCleanMode mode level s
  | .dryMode mode setpoint => Sys2Proof.Machine.execDryMode mode setpoint s
  | .fanCeiling level => Sys2Proof.Machine.execFanCeiling level s
  | .fanBoost level duration => Sys2Proof.Machine.execFanBoost level duration s
  | .status page => Sys2Proof.Machine.execStatus page s
  | .channelGet channel => Sys2Proof.Machine.execChannelGet channel s
  | .eventsRead => Sys2Proof.Machine.execEventsRead s
  | .watchSet rise fall oneShot attention => Sys2Proof.Machine.execWatchSet rise fall oneShot attention s
  | .faultClearFan channel => Sys2Proof.Machine.execFaultClearFan channel s
  | .faultClearCompressor channel => Sys2Proof.Machine.execFaultClearCompressor channel s
  | .faultClearPump channel => Sys2Proof.Machine.execFaultClearPump channel s
  | .faultClearLink channel => Sys2Proof.Machine.execFaultClearLink channel s
  | .faultClearChannel channel => Sys2Proof.Machine.execFaultClearChannel channel s
  | .filterFit fit => Sys2Proof.Machine.execFilterFit fit s
  | .filterRemove slot => Sys2Proof.Machine.execFilterRemove slot s
  | .filterGet slot => Sys2Proof.Machine.execFilterGet slot s
  | .filterCheck => Sys2Proof.Machine.execFilterCheck s
  | .pumpRun => Sys2Proof.Machine.execPumpRun s
  | .pumpCancel => Sys2Proof.Machine.execPumpCancel s
  | .substSet channel kind params => Sys2Proof.Machine.execSubstSet channel kind params s
  | .substClear channel => Sys2Proof.Machine.execSubstClear channel s
  | .serviceRunFan params => Sys2Proof.Machine.execServiceRunFan params s
  | .serviceRunCompressor params => Sys2Proof.Machine.execServiceRunCompressor params s
  | .serviceRunPump params => Sys2Proof.Machine.execServiceRunPump params s
  | .serviceStop => Sys2Proof.Machine.execServiceStop s
  | .frameComplete check => Sys2Proof.Machine.execFrameComplete check s
  | .overlong len => Sys2Proof.Machine.execOverlong len s
  | .truncated => Sys2Proof.Machine.execTruncated s
  | .replySent => Sys2Proof.Machine.execReplySent s
  | .linkSilent => Sys2Proof.Machine.execLinkSilent s
  | .softReset => Sys2Proof.Machine.execSoftReset s
  | .linkFullReset => Sys2Proof.Machine.execLinkFullReset s
  | .powerOn => Sys2Proof.Machine.execPowerOn s
  | .resetNAssert => Sys2Proof.Machine.execResetNAssert s
  | .supplyCut => Sys2Proof.Machine.execSupplyCut s
  | .supplySenseCrossing rising => Sys2Proof.Machine.execSupplySenseCrossing rising s
  | .cutRelease => Sys2Proof.Machine.execCutRelease s
  | .resetRelease source => Sys2Proof.Machine.execResetRelease source s
  | .jobTick => Sys2Proof.Machine.execJobTick s
  | .slotStart => Sys2Proof.Machine.execSlotStart s
  | .sampleDelivered raw => Sys2Proof.Machine.execSampleDelivered raw s
  | .defrostStopEnd => Sys2Proof.Machine.execDefrostStopEnd s
  | .defrostEnd => Sys2Proof.Machine.execDefrostEnd s
  | .coilFrostTrigger => Sys2Proof.Machine.execCoilFrostTrigger s
  | .periodicDefrostTrigger => Sys2Proof.Machine.execPeriodicDefrostTrigger s
  | .lockoutEnd => Sys2Proof.Machine.execLockoutEnd s
  | .startAttempt => Sys2Proof.Machine.execStartAttempt s
  | .fanReadyStart => Sys2Proof.Machine.execFanReadyStart s
  | .startWaitTimeout => Sys2Proof.Machine.execStartWaitTimeout s
  | .retryWaitEnd => Sys2Proof.Machine.execRetryWaitEnd s
  | .currentCheck3 => Sys2Proof.Machine.execCurrentCheck3 s
  | .startConfirmation => Sys2Proof.Machine.execStartConfirmation s
  | .minOnTimeStop => Sys2Proof.Machine.execMinOnTimeStop s
  | .overcurrentTrip => Sys2Proof.Machine.execOvercurrentTrip s
  | .runOnEnd => Sys2Proof.Machine.execRunOnEnd s
  | .idleSampleStart => Sys2Proof.Machine.execIdleSampleStart s
  | .idleSampleEnd => Sys2Proof.Machine.execIdleSampleEnd s
  | .dryWeakRise => Sys2Proof.Machine.execDryWeakRise s
  | .boostExpiry => Sys2Proof.Machine.execBoostExpiry s
  | .tachEdge period => Sys2Proof.Machine.execTachEdge period s
  | .fanStall => Sys2Proof.Machine.execFanStall s
  | .fanRetry => Sys2Proof.Machine.execFanRetry s
  | .stallCountExpiry => Sys2Proof.Machine.execStallCountExpiry s
  | .pmWarmupEnd => Sys2Proof.Machine.execPmWarmupEnd s
  | .cleanStepDown => Sys2Proof.Machine.execCleanStepDown s
  | .carriedStepDown => Sys2Proof.Machine.execCarriedStepDown s
  | .cleanFallbackTimeout => Sys2Proof.Machine.execCleanFallbackTimeout s
  | .inputPinChange input level => Sys2Proof.Machine.execInputPinChange input level s
  | .coverAccepted => Sys2Proof.Machine.execCoverAccepted s
  | .tankInAccepted => Sys2Proof.Machine.execTankInAccepted s
  | .floatAccepted => Sys2Proof.Machine.execFloatAccepted s
  | .drainClear => Sys2Proof.Machine.execDrainClear s
  | .pumpRunStart => Sys2Proof.Machine.execPumpRunStart s
  | .pumpNoFlowTest => Sys2Proof.Machine.execPumpNoFlowTest s
  | .pumpBlindDone => Sys2Proof.Machine.execPumpBlindDone s
  | .pumpTimeout => Sys2Proof.Machine.execPumpTimeout s
  | .pumpRestEnd => Sys2Proof.Machine.execPumpRestEnd s
  | .checkStart => Sys2Proof.Machine.execCheckStart s
  | .checkRetryEnd => Sys2Proof.Machine.execCheckRetryEnd s
  | .checkTimeout => Sys2Proof.Machine.execCheckTimeout s
  | .serviceRunExpiry => Sys2Proof.Machine.execServiceRunExpiry s
  | .byteReceived byte => Sys2Proof.Machine.execByteReceived byte s

end Sys2Proof.Machine
end

