-- ==== Sys2Proof/Safety.lean ====
section
/-! DEFINITION. What the statements are about: a safe step, what an event leaves as it is, and the invariants of the part. -/

namespace Sys2Proof

/-- The step from a state answers a next state. No rule of the manual stops the part, so every step is expected to be safe; a refusal
would be a gap of the model. -/
def Safe (s : Machine.State) : Prop := ∃ t, Machine.step s = .next t

namespace Machine

/-! What an event leaves as it is -/

/-- The state that the consequences of a change do not reach: everything that only a command, a tick or a sample of its own changes. What
they do reach is the grant and the fan's answer to it, COMP_ON, the drying cycle's phase, level, slots and timers, the tank and drain
states, the pressure check's state, demand rows DRY and FILTER, emphasis claims, the pump run, the stored conditions and the pending
list. -/
structure Kept where
  pending : List Instr
  rst : Resets
  time : TimeBase
  setup : Setup
  plan : List Channel
  seq : List Channel
  members : List Channel
  pos : Nat
  converting : Option Channel
  chans : PerChannel Chan
  rows : Row × Row × Row
  boostRemaining : Option Nat
  hostCeiling : Nat
  stalls : Nat
  fanFault : Bool
  runTime : Nat
  clean : Cleaning
  dryMode : DryMode × Nat
  failures : Nat × Option Failure × Bool
  weak : Nat × Option Int × Bool
  totals : Nat × Nat
  defrosts : Nat × Option LastDefrost
  inputs : Input × Input × Input
  water : Option Int × Nat × Nat × Nat × Nat
  pumpFault : Nat × Bool
  slots : PerSlot SlotRec
  runCount : Nat
  enables : List Bool × List Bool × List Bool × Bool
  lastCause : ResetCause
  serv : Service
  link : Link
  deriving DecidableEq, Repr

/-- That part of a state. -/
def State.kept (s : State) : Kept :=
  { pending := s.pending, rst := s.rst, time := s.time, setup := s.setup, plan := s.scan.plan, seq := s.scan.seq,
    members := s.scan.members, pos := s.scan.pos, converting := s.scan.converting, chans := s.chans,
    rows := (s.arb.clean, s.arb.service, s.arb.boost), boostRemaining := s.arb.boostRemaining, hostCeiling := s.arb.hostCeiling,
    stalls := s.fan.stalls, fanFault := s.fan.fault, runTime := s.fan.runTime, clean := s.clean,
    dryMode := (s.dry.mode, s.dry.setpoint), failures := (s.dry.failures, s.dry.lastFailure, s.dry.disabled),
    weak := (s.dry.weak, s.dry.riseRef, s.dry.dryWeak), totals := (s.dry.starts, s.dry.totalRun),
    defrosts := (s.dry.defrostCount, s.dry.lastDefrost), inputs := (s.water.tankIn, s.water.float, s.water.cover),
    water := (s.water.held, s.water.total, s.water.emptyings, s.water.unknownEmptyings, s.water.unknownRuns),
    pumpFault := (s.water.failures, s.water.fault), slots := s.filt.slots, runCount := s.filt.check.runCount,
    enables := (s.ev.riseEn, s.ev.fallEn, s.ev.onceEn, s.ev.attention), lastCause := s.ev.lastCause, serv := s.serv, link := s.link }

/-! How the statements write a next state -/

/-- The state when the event is over whose own change makes `u` of `s`: everything that follows from the change has been taken. -/
def State.after (s u : State) : State := event (fun _ => u) s

/-- The part takes a request at once: it is not in reset and answers no other (R153, R169). -/
def State.listening (s : State) : Prop := s.rst.inReset = false ∧ s.link.answer = none

/-- A request in the answer place, with its reply frame and what follows it. -/
def State.answering (t : State) (r : Request) (frame : List Byte) (next : AfterReply) : State :=
  t.setLink { t.link with answer := some { request := r, reply := frame, after := next } }

/-- An accepted request: KIND plus 0x80 with the given payload (R170). -/
def State.replied (t : State) (r : Request) (payload : List Byte) : State :=
  t.answering r (frameOf (kindOf r + 128#8) payload) .nothing

/-- A refused request: KIND 0x7F with the echoed KIND, the reason code and the detail (R170). -/
def State.declined (t : State) (r : Request) (reason : Reason) (detail : Nat) : State :=
  t.answering r (frameOf 127#8 [kindOf r, byteOf (reasonCode reason), byteOf detail]) .nothing

/-- The DRY row released (R39). -/
def State.dryReleased (s : State) : State := { s with arb := { s.arb with dry := { s.arb.dry with active := false } } }

/-- The DRY row set (R39). -/
def State.drySet (s : State) (kind : RowKind) (level : Nat) : State :=
  { s with arb := { s.arb with dry := { active := true, kind := kind, level := level, takenAt := s.time.uptime } } }

/-- COMP_ON goes off now, for the reason given, and `d` is what else becomes of the drying record (R80, R84, R89). -/
def State.compStopped (s : State) (reason : StopReason) (d : Drying) : State :=
  { s with
    comp := { request := false, on := false },
    dry := { d with
      offTime := s.time.uptime, offTank := s.qual .tankLvl, lastStop := some { reason := reason, time := s.time.uptime },
      onTime := none, trip := none, coilFrost := none } }

/-- A failure of a start or of a run, as R84 has it: COMP_ON off, the DRY row released, LOCKOUT, the failure counted, START_FAIL latched
after the conditions, and at the third failure DISABLED, which ends a COMPRESSOR service run (R185). -/
def State.failed (s : State) (reason : FailReason) (phase : FailPhase) : State :=
  let stop : StopReason := match reason with | .noCurrent => .noCurrent | .overcurrent => .overcurrent
  let t := (s.compStopped stop { s.dry with
    phase := .lockout, failures := min 3 (s.dry.failures + 1),
    lastFailure := some { reason := reason, phase := phase, time := s.time.uptime },
    disabled := s.dry.disabled || decide (3 ≤ s.dry.failures + 1) }).dryReleased
  let t := oneShot 22 (publish t)
  if t.dry.disabled = true ∧ t.compressorRun = true then endServiceRun t else t

/-- The water a run has moved: for a measured run the fall of the level, not below 0, in mL of the tank (R126). -/
def State.movedBy (s : State) : Option Nat :=
  match s.water.pump.startLevel, s.water.pump.latestLevel with
  | some a, some b => some (roundDiv (max 0 (a - b) * (s.setup.tankCapacity : Int)) 1000).toNat
  | _, _ => none

/-- The end of a pump run, as R126 and R127 have it: PUMP_ON off and the claim released, the record resting with its result, the water
counted, the failures counted, the conditions of the Water Controller before PUMP_RUN_END in the Event Latch (R158), and a PUMP service
run ended with it (R186). -/
def State.pumpEnded (s : State) (result : PumpResult) : State :=
  let failures := match result with
    | .done => 0
    | .blindDone => 0
    | .timeout => min 3 (s.water.failures + 1)
    | .noFlow => min 3 (s.water.failures + 1)
    | _ => s.water.failures
  let w := { s.water with
    pumpOn := false, total := min 4294967295 (s.water.total + s.movedBy.getD 0),
    unknownRuns := if s.movedBy = none then min 65535 (s.water.unknownRuns + 1) else s.water.unknownRuns,
    failures := failures, fault := s.water.fault || decide (failures = 3),
    pump := { s.water.pump with
      state := .resting, rest := some 0, result := some result, endedAt := some s.time.uptime, moved := s.movedBy } }
  let t := oneShot 24 (publish (drainSync (tankSync { s with
    water := w, scan := { s.scan with claims := releaseClaimIn .water s.scan.claims } })))
  match s.serv.run with
  | some r => if s.water.pump.kind = some .service ∧ r.kind = .pump then endServiceRun t else t
  | none => t

/-- A pump run of the given kind that starts now; a BLIND run keeps the levels absent (R124). -/
def State.pumpStarted (s : State) (kind : PumpKind) : State :=
  let level := if kind = .blind then none else s.qual .tankLvl
  { s with
    water := { s.water with
      pumpOn := true,
      pump := { state := .running, kind := some kind, startedAt := some s.time.uptime, startLevel := level, latestLevel := level,
                elapsed := 0, rest := none, result := none, endedAt := none, moved := none } },
    scan := { s.scan with claims := takeClaimIn .water .tankLvl s.scan.claims } }

/-- The end of a pressure check, as R147 has it: the FILTER row and claim released, the timer and the samples gone, the state and the
marks that the result leaves, and CHECK_END after the conditions. -/
def State.checkEnded (s : State) (result : CheckResult) : State :=
  let closed : Bool := decide (result = .done ∨ result = .removed)
  let c := s.filt.check
  oneShot 25 (publish { s with
    arb := { s.arb with filter := { s.arb.filter with active := false } },
    scan := { s.scan with claims := releaseClaimIn .filter s.scan.claims },
    filt := { s.filt with check := { c with
      state := if closed then .idle else .due, dueCause := if closed then none else c.dueCause,
      requested := if closed then false else c.requested, retry := if closed then none else some 0, timer := none, samples := 0, sum := 0,
      lastResult := some result, lastEnded := some s.time.uptime } } })

/-- The check record replaced. -/
def State.withCheck (s : State) (c : Check) : State := { s with filt := { s.filt with check := c } }

/-- A slot record replaced. -/
def State.withSlot (s : State) (n : Slot) (r : SlotRec) : State := { s with filt := { s.filt with slots := s.filt.slots.set n r } }

/-- The request that a row of the table stands for, whole (R171). -/
def asked : Instr → Option Request
  | .ident => some .ident
  | .setupSet item index value => some (.setupSet item index value)
  | .setupGet item index => some (.setupGet item index)
  | .start => some .start
  | .resetFull => some (.reset 0#8)
  | .resetSoft => some (.reset 1#8)
  | .cleanMode mode level => some (.cleanMode mode level)
  | .dryMode mode setpoint => some (.dryMode mode setpoint)
  | .fanCeiling level => some (.fanCeiling level)
  | .fanBoost level duration => some (.fanBoost level duration)
  | .status page => some (.status page)
  | .channelGet channel => some (.channelGet channel)
  | .eventsRead => some .eventsRead
  | .watchSet rise fall once attention => some (.watchSet rise fall once attention)
  | .faultClearFan channel => some (.faultClear 0#8 channel)
  | .faultClearCompressor channel => some (.faultClear 1#8 channel)
  | .faultClearPump channel => some (.faultClear 2#8 channel)
  | .faultClearLink channel => some (.faultClear 3#8 channel)
  | .faultClearChannel channel => some (.faultClear 4#8 channel)
  | .filterFit p => some (.filterFit p)
  | .filterRemove slot => some (.filterRemove slot)
  | .filterGet slot => some (.filterGet slot)
  | .filterCheck => some .filterCheck
  | .pumpRun => some .pumpRun
  | .pumpCancel => some .pumpCancel
  | .substSet channel kind params => some (.substSet channel kind params)
  | .substClear channel => some (.substClear channel)
  | .serviceRunFan params => some (.serviceRun 0#8 params)
  | .serviceRunCompressor params => some (.serviceRun 1#8 params)
  | .serviceRunPump params => some (.serviceRun 2#8 params)
  | .serviceStop => some .serviceStop
  | _ => none

/-- The bytes of a number of `k` bytes, little-endian (R181). -/
def quadBytes (q : Quad) : List Byte := leBytes 4 q.toNat

def halfBytes (q : Half) : List Byte := leBytes 2 q.toNat

/-- The restore marker of FILTER_FIT and what follows it (R171). -/
def restoreBytes : Restore → List Byte
  | .absent => [0#8]
  | .accounts l v t => [1#8] ++ quadBytes l ++ quadBytes v ++ quadBytes t
  | .accountsAndBaseline l v t b => [2#8] ++ quadBytes l ++ quadBytes v ++ quadBytes t ++ halfBytes b

/-- The payload that carries a request, field by field (R171, R183, R187). -/
def payloadOf : Request → List Byte
  | .ident => []
  | .setupSet item index value => item :: index :: value
  | .setupGet item index => [item, index]
  | .start => []
  | .reset scope => [scope]
  | .cleanMode mode level => [mode, level]
  | .dryMode mode setpoint => [mode, setpoint]
  | .fanCeiling level => [level]
  | .fanBoost level duration => level :: halfBytes duration
  | .status page => [page]
  | .channelGet channel => [channel]
  | .eventsRead => []
  | .watchSet rise fall once attention => leBytes 3 rise.toNat ++ leBytes 3 fall.toNat ++ [once, attention]
  | .faultClear target channel => [target, channel]
  | .filterFit p =>
    [p.slot, p.ratingKind] ++ quadBytes p.rated ++ [p.capture] ++ halfBytes p.riseLimit ++ [byteOf p.tag.length] ++ p.tag
      ++ restoreBytes p.restore
  | .filterRemove slot => [slot]
  | .filterGet slot => [slot]
  | .filterCheck => []
  | .pumpRun => []
  | .pumpCancel => []
  | .substSet channel kind params => channel :: kind :: params
  | .substClear channel => [channel]
  | .serviceRun kind params => kind :: params
  | .serviceStop => []
  | .refusedByLink _ _ => []

/-- The state after some bytes have arrived on LINK_RX, one command for each. -/
def fed : List Byte → State → Result
  | [], s => .next s
  | b :: bs, s =>
    match exec (.byteReceived b) s with
    | .next t => fed bs t
    | r => r

/-- The end of the service run in force, as R182 to R186 have it: its effect undone, the record cleared and SERVICE_END raised. -/
def State.serviceStopped (s : State) : State :=
  let cleared := fun (t : State) => oneShot 26 { t with serv := { t.serv with run := none } }
  match s.serv.run with
  | none => s
  | some r =>
    if r.kind = .fan then
      cleared { s with
        arb := { s.arb with service := { s.arb.service with active := false } },
        scan := { s.scan with claims := releaseClaimIn .service s.scan.claims } }
    else if r.kind = .pump ∧ s.water.pump.state = .running ∧ s.water.pump.kind = some .service then s.pumpEnded .cancelled
    else cleared s

/-- The reset rows and the pins, which are taken in reset too (R152, R153). -/
def actsInReset : Instr → Bool
  | .powerOn => true
  | .resetNAssert => true
  | .supplyCut => true
  | .supplySenseCrossing _ => true
  | .cutRelease => true
  | .resetRelease _ => true
  | .inputPinChange _ _ => true
  | _ => false

/-- When an event row's own rule says that the event comes about. Requests, bytes and pins come from outside at any time. -/
def Due (i : Instr) (s : State) : Prop :=
  match i with
  | .frameComplete _ => ∃ kind len bytes, s.link.receiver = .payload kind len bytes ∧ bytes.length = len.toNat
  | .overlong len => 200 < len.toNat ∧ ∃ kind, s.link.receiver = .len kind
  | .truncated => s.link.receiver ≠ .hunting
  | .replySent => s.link.answer ≠ none
  | .linkSilent => s.time.tested = false ∧ 0 < s.setup.linkSilence ∧ s.link.silent = false ∧ s.setup.linkSilence ≤ s.link.silence
  | .softReset => s.awaits .softReset = true
  | .linkFullReset => s.awaits .fullReset = true
  | .slotStart => s.scan.converting = none ∧ s.time.slot < 64
  | .jobTick => s.scan.converting = none ∧ 64 ≤ s.time.slot
  | .sampleDelivered _ => s.scan.converting ≠ none
  | .defrostStopEnd => s.inStop ∧ s.stopOver = true
  | .defrostEnd => s.inMelt ∧ s.meltOver = true
  | .coilFrostTrigger => s.coilFrosted
  | .periodicDefrostTrigger => s.time.tested = false ∧ s.runningNormal ∧ s.periodicFrost = true
  | .lockoutEnd => s.time.tested = false ∧ s.lockoutDue
  | .startAttempt => s.attemptDue
  | .fanReadyStart => s.startWaiting ∧ s.mayStart ∧ s.fanReady
  | .startWaitTimeout => s.waitTimedOut
  | .retryWaitEnd => s.retryOver
  | .currentCheck3 => s.noCurrentAt3
  | .startConfirmation => s.judgeAt5
  | .minOnTimeStop => s.demandLost
  | .overcurrentTrip => s.tripped
  | .runOnEnd => s.runOnOver
  | .idleSampleStart => s.idleOver
  | .idleSampleEnd => s.sampleOver
  | .dryWeakRise => s.time.tested = false ∧ s.runningNormal ∧ s.weakDue = true
  | .boostExpiry => s.arb.boostRemaining = some 0
  | .fanStall => s.fan.stallDue = true
  | .fanRetry => s.fan.state = .stalled ∧ 10 ≤ s.fan.timer
  | .stallCountExpiry => s.fan.state = .running ∧ s.fan.runTime = 300
  | .pmWarmupEnd => (s.chan .pm).state = .warming ∧ (s.chan .pm).warmup = some 0
  | .cleanStepDown => s.time.tested = false ∧ s.stepDownDue = true
  | .carriedStepDown => s.time.tested = false ∧ s.carriedDue = true
  | .cleanFallbackTimeout => s.fallbackDue = true
  | .coverAccepted => s.water.cover.accepts
  | .tankInAccepted => s.water.tankIn.accepts
  | .floatAccepted => s.water.float.accepts
  | .drainClear => s.drainCleared
  | .pumpRunStart => s.pumpMayStart ∧ s.pumpTrigger.isSome
  | .pumpNoFlowTest => s.time.tested = false ∧ s.pumpNoFlow = true
  | .pumpBlindDone => s.pumpBlindDue = true
  | .pumpTimeout => s.pumpTimedOut = true
  | .pumpRestEnd => s.pumpRested = true
  | .checkStart => s.checkMayStart
  | .checkRetryEnd => s.checkRetryOver
  | .checkTimeout => s.checkMinuteOut
  | .serviceRunExpiry => s.serviceExpired = true
  | _ => True

/-! Invariants -/

/-- The stored value of each condition is the owner's (R158). -/
def State.StoredFollowOwners (s : State) : Prop := s.rst.inReset = false → s.ev.stored = conditions s

/-- COMP_ON is on only while the fan is RUNNING (R58, R90). -/
def State.CompressorNeedsFan (s : State) : Prop := s.comp.on = true → s.fan.state = .running

/-- COMP_ON is on exactly in the phases STARTING and RUNNING, and these and STOPPING belong to level 0 (R80, R96). -/
def State.CompressorFollowsPhase (s : State) : Prop :=
  (s.comp.on = true ↔ s.dry.phase = .starting ∨ s.dry.phase = .running) ∧
  (s.dry.phase = .starting ∨ s.dry.phase = .running ∨ s.dry.phase = .stopping → s.dry.level = .normal)

/-- At level 0 the phases IDLE, STARTING and RUNNING are found only with the restart lockout run out: 181 or more since COMP_ON last
went off, or since the last reset (R80). -/
def State.LockoutRespected (s : State) : Prop :=
  s.dry.level = .normal → s.dry.phase = .idle ∨ s.dry.phase = .starting ∨ s.dry.phase = .running → s.dry.offTime + 181 ≤ s.time.uptime

/-- Drying is at level 2 exactly while the hold-cause set is non-empty; slot 2 is filled exactly at level 2, and slot 1 exactly at level 1
or with a DEFROST context in slot 2; causes are deferred only in step STOP (R96, R104). -/
def State.SlotsFollowLevel (s : State) : Prop :=
  (s.dry.level = .hold ↔ s.dry.holdSet ≠ []) ∧ (s.dry.slot2.isSome = true ↔ s.dry.level = .hold) ∧
  (s.dry.slot1.isSome = true ↔ s.dry.level = .defrost ∨ (s.dry.level = .hold ∧ s.dry.slot2.map Context.kind = some .defrost)) ∧
  (¬ s.inStop → s.dry.deferred = [])

/-- PUMP_ON is on exactly while a pump run is RUNNING (R123). -/
def State.PumpFollowsRun (s : State) : Prop := s.water.pumpOn = true ↔ s.water.pump.state = .running

/-- The FILTER row is active exactly while a pressure check is WAITING or SAMPLING; it is then EXACTLY, and COMP_ON is off (R144, R147). -/
def State.FilterRowFollowsCheck (s : State) : Prop :=
  (s.arb.filter.active = true ↔ s.checkBusy) ∧ (s.checkBusy → s.arb.filter.kind = .exactly ∧ s.comp.on = false)

/-- Each claimant holds at most one emphasis claim (R6). -/
def State.OneClaimEach (s : State) : Prop := (s.scan.claims.map Claim.claimant).Nodup

/-- The pending list has at most one entry for an event and edge, with an occurrence count of 1 to 15 (R160). -/
def State.EntriesDistinct (s : State) : Prop :=
  (s.ev.list.map fun e => (e.id, e.edge)).Nodup ∧ ∀ e ∈ s.ev.list, 1 ≤ e.count ∧ e.count ≤ 15

/-- A channel record has a qualified value exactly in QUALIFIED, a window of at most four values, and no window and no run outside
QUALIFYING and QUALIFIED (R18, R19). -/
def Chan.Sound (c : Chan) : Prop :=
  (c.value.isSome = true ↔ c.state = .qualified) ∧ c.window.length ≤ 4 ∧
  (c.state ≠ .qualifying → c.state ≠ .qualified → c.window = [] ∧ c.run = 0)

/-- Every channel record is sound. -/
def State.ChannelsSound (s : State) : Prop := ∀ c : Channel, (s.chan c).Sound

end Machine

end Sys2Proof
end

