-- ==== Sys2Proof/Certificates/Slice0/Obligations.lean ====
section
/-! DEFINITION. The statements about the part, for the provers: the step and its invariants, and what each command does by the rules of
the manual. A next state is written as `s.after u`: `u` is the change that the rule gives, and `after` what follows from it. -/

open Sys2Proof Sys2Proof.Machine

/-! The step, the queue and the event -/

/-- A step takes the command at the front of the queue and runs it on the state with the queue's rest; with no command waiting the part
idles, which is the model's choice (log entry 13). -/
def Obligations.StepTakesFrontCommand : Prop :=
  (∀ (c : Instr) (rest : List Instr) (s : State), s.pending = c :: rest → step s = exec c (s.setPending rest)) ∧
  (∀ s : State, s.pending = [] → step s = .next s)

/-- Every command, in every state, answers a next state, and so does every step; no command touches the queue, so that a step leaves the
queue's rest. -/
def Obligations.EveryCommandAnswersNext : Prop :=
  ((∀ (i : Instr) (s : State), ∃ t, exec i s = .next t) ∧ ∀ s : State, Safe s) ∧
  ((∀ (i : Instr) (s t : State), exec i s = .next t → t.pending = s.pending) ∧
  ∀ s t : State, step s = .next t → t.pending = s.pending.tail)

/-- In reset nothing acts but the reset rows and the pins (R153). An event row that its rule does not make due changes nothing, which is
the model's choice (log entry 9). -/
def Obligations.NothingActsInResetOrUndue : Prop :=
  (∀ (i : Instr) (s : State), actsInReset i = false → s.rst.inReset = true → exec i s = .next s) ∧
  (∀ (i : Instr) (s : State), actsInReset i = false → ¬ Due i s → exec i s = .next s)

/-- What follows from a change leaves everything named by `State.kept` as the change has made it, and reaches only the rest. When the event
is over the stored conditions are the owners' values, and COMP_ON is on only with the fan RUNNING. Where a changed state asks for nothing
more and no input of the pump's start triggers has changed, the change is the whole effect, but for the order of what it has latched: the
entries an event adds to the pending list stand in order of event id, lowest first, as R158 has it for one owner; that entries of several
owners stand so too is the model's choice (log entry 28). -/
def Obligations.EventLeavesTheRest : Prop :=
  (∀ s u : State, (s.after u).kept = u.kept ∧ (s.after u).ev.stored = conditions (s.after u) ∧
    ((s.after u).comp.on = true → (s.after u).fan.state = .running)) ∧
  (∀ s u : State, settleRound u = u → pumpInputsChanged s u = false →
    s.after u = inIdOrder s u ∧ (u.ev.list.length ≤ s.ev.list.length → s.after u = u)) ∧
  (∀ s u : State, ((s.after u).ev.list.drop s.ev.list.length).Pairwise fun a b => a.id ≤ b.id)

/-! Invariants -/

/-- Each invariant holds right after reset. -/
def Obligations.InvariantsHoldAtReset : Prop :=
  State.reset.StoredFollowOwners ∧ State.reset.CompressorNeedsFan ∧ State.reset.CompressorFollowsPhase ∧ State.reset.LockoutRespected ∧
  State.reset.SlotsFollowLevel ∧ State.reset.PumpFollowsRun ∧ State.reset.FilterRowFollowsCheck ∧ State.reset.OneClaimEach ∧
  State.reset.EntriesDistinct ∧ State.reset.ChannelsSound

/-- The Event Latch's stored value of every condition is the owner's value, before and after every step outside reset (R158). -/
def Obligations.StoredConditionsFollowOwners : Prop :=
  ∀ s t : State, s.StoredFollowOwners → step s = .next t → t.StoredFollowOwners

/-- COMP_ON is on only while the fan is RUNNING (R58, R90), and exactly in STARTING and RUNNING, which with STOPPING are found at level 0
only (R80, R96). -/
def Obligations.CompressorFollowsFanAndPhase : Prop :=
  (∀ s t : State, s.CompressorNeedsFan → step s = .next t → t.CompressorNeedsFan) ∧
  (∀ s t : State, s.CompressorFollowsPhase → step s = .next t → t.CompressorFollowsPhase)

/-- No phase beyond LOCKOUT at level 0 before 181 s of uptime have passed since COMP_ON last went off (R80), short of uptime's return to
0 at its largest value. -/
def Obligations.RestartLockoutIsKept : Prop :=
  ∀ s t : State, s.time.uptime < maxCount32 → s.LockoutRespected → step s = .next t → t.LockoutRespected

/-- The drying level, the hold-cause set, the context slots and the deferred causes stay bound together (R96, R104). -/
def Obligations.ContextSlotsFollowLevel : Prop := ∀ s t : State, s.SlotsFollowLevel → step s = .next t → t.SlotsFollowLevel

/-- PUMP_ON is on exactly while a pump run is RUNNING (R123), and the FILTER row is active exactly while a check is WAITING or SAMPLING, with
COMP_ON off (R144, R147). -/
def Obligations.PumpAndFilterRowFollowTheirRecords : Prop :=
  (∀ s t : State, s.PumpFollowsRun → step s = .next t → t.PumpFollowsRun) ∧
  (∀ s t : State, s.FilterRowFollowsCheck → step s = .next t → t.FilterRowFollowsCheck)

/-- A claimant never holds two emphasis claims (R6), and the pending list never has two entries for one event and edge, with counts from 1 to
15 (R160). -/
def Obligations.ListsHoldEachKeyOnce : Prop :=
  (∀ s t : State, s.OneClaimEach → step s = .next t → t.OneClaimEach) ∧
  (∀ s t : State, s.EntriesDistinct → step s = .next t → t.EntriesDistinct)

/-- A qualified value is present exactly in QUALIFIED, and a window has at most four values (R18, R19). -/
def Obligations.ChannelRecordsStaySound : Prop := ∀ s t : State, s.ChannelsSound → step s = .next t → t.ChannelsSound

/-! The Measurement Scanner and the Reading Qualifier -/

/-- Rounding is to the nearest whole number, and a half goes away from zero (R1, R25, R122, R146); a scaled value is the step nearest to the
straight line through the channel's two ends, which codes 0 and 4095 meet (R1). -/
def Obligations.ScaledValueIsNearestStep : Prop :=
  (∀ (n : Int) (d : Nat), 0 < d → (2 * (d * roundDiv n d - n)).natAbs ≤ d ∧
    ((2 * (d * roundDiv n d - n)).natAbs = d → n.natAbs ≤ (d * roundDiv n d).natAbs)) ∧
  ∀ (c : Channel) (raw : Nat), raw ≤ 4095 →
    (2 * (4095 * c.scaled raw - (c.scale.low * (4095 - raw) + c.scale.high * raw))).natAbs ≤ 4095 ∧
    c.scaled 0 = c.scale.low ∧ c.scaled 4095 = c.scale.high

/-- Takes and releases of emphasis claims, case by case (R6); the emphasized list is the first two different channels of the claims, oldest
first (R7). -/
def Obligations.ClaimsAndEmphasisFollowTheirOrder : Prop :=
  (∀ (who : Claimant) (c : Channel) (l : List Claim),
    ((∀ x ∈ l, x.claimant ≠ who) → takeClaimIn who c l = l ++ [⟨who, c⟩] ∧ releaseClaimIn who l = l) ∧
    (⟨who, c⟩ ∈ l → takeClaimIn who c l = l) ∧
    (∀ (a b : List Claim) (d : Channel), d ≠ c → l = a ++ ⟨who, d⟩ :: b → (∀ x ∈ a ++ b, x.claimant ≠ who) →
      takeClaimIn who c l = a ++ b ++ [⟨who, c⟩] ∧ releaseClaimIn who l = a ++ b)) ∧
  (∀ l : List Claim, emphasized l = ((l.map Claim.channel).eraseDups).take 2)

/-- The sequence of R9. The emphasized part is the emphasized list, and the base part the rest of the plan in plan order, both without a PM
that is not powered. With no base part the sequence is the emphasized part alone; else it is the emphasized part and the base channel, for
each base channel in turn. So it has every converted member and no other, and b × (e + 1) steps for b base and e emphasized channels. -/
def Obligations.SequenceInterleavesEmphasis : Prop :=
  (∀ (plan emph : List Channel) (powered : Bool) (c : Channel),
    c ∈ buildSequence plan emph powered ↔ (c ∈ plan ∨ c ∈ emph) ∧ (c = .pm → powered = true)) ∧
  (∀ (plan emph : List Channel) (powered : Bool),
    let part := emph.filter fun c => powered || decide (c ≠ .pm)
    let base := plan.filter fun c => (powered || decide (c ≠ .pm)) && !decide (c ∈ emph)
    (base = [] → buildSequence plan emph powered = part) ∧
    (base ≠ [] → buildSequence plan emph powered = base.flatMap fun b => part ++ [b]) ∧
    (base ≠ [] → (buildSequence plan emph powered).length = base.length * (part.length + 1))) ∧
  buildSequence [.rh, .roomT, .coilT, .tankLvl, .filterDp, .pm, .supply, .compI] [.coilT] true =
    [.coilT, .rh, .coilT, .roomT, .coilT, .tankLvl, .coilT, .filterDp, .coilT, .pm, .coilT, .supply, .coilT, .compI]

/-- SLOT_START: the sequence built from plan, emphasis and power is in force, at its first step if it differs; its step begins to convert,
and the channels that have entered or left get their notices (R3, R10, R11, R26). The slot is one of the 64 of its second, and is counted
(R149). Members and notices follow the plan and the emphasis also where the sequence stays the same, which is the model's deduction
(log entry 32). -/
def Obligations.SlotStartTakesTheNextStep : Prop :=
  ∀ s : State, s.rst.inReset = false → s.scan.converting = none → s.time.slot < 64 →
    ∃ t, exec .slotStart s = .next t ∧ t.scan.plan = s.scan.plan ∧
      t.scan.seq = buildSequence s.scan.plan (emphasized s.scan.claims) s.clean.pmPwr ∧
      t.scan.pos = (if t.scan.seq = s.scan.seq then s.scan.pos else 0) ∧ t.scan.converting = t.scan.seq[t.scan.pos]? ∧
      (∀ c, c ∈ t.scan.members ↔ c ∈ s.scan.plan ∨ c ∈ emphasized s.scan.claims) ∧
      (∀ c, c ∈ t.scan.members → c ∉ s.scan.members → (s.chan c).state = .off →
        t.chan c = { s.chan c with
          window := [], run := 0, value := none,
          state := if c ≠ .pm then .qualifying else if s.clean.pmPwr = false then .off
            else if 0 < (s.chan c).warmup.getD 0 then .warming else .qualifying }) ∧
      (∀ c, c ∈ t.scan.members → c ∉ s.scan.members → (s.chan c).state ≠ .off → t.chan c = s.chan c) ∧
      (∀ c, c ∉ t.scan.members → c ∈ s.scan.members → (s.chan c).state ≠ .faulted → (s.chan c).state ≠ .off →
        t.chan c = { s.chan c with state := .off, window := [], run := 0, value := none }) ∧
      (∀ c, c ∉ t.scan.members → c ∈ s.scan.members → (s.chan c).state = .faulted ∨ (s.chan c).state = .off → t.chan c = s.chan c) ∧
      (∀ c, (c ∈ t.scan.members ↔ c ∈ s.scan.members) → t.chan c = s.chan c) ∧
      t.rst = s.rst ∧ t.time = { s.time with slot := s.time.slot + 1 } ∧ t.setup = s.setup ∧ t.serv.subst = s.serv.subst ∧ t.link = s.link

/-- What a delivered sample carries: code, value and marks, live or as a stand-in; a rail reading makes a hard fault of the channel (R2). -/
def Obligations.SampleCarriesCodeValueAndMarks : Prop :=
  ∀ (raw : BitVec 12) (c : Channel) (s : State), s.rst.inReset = false → s.scan.converting = some c →
    ∃ t l, exec (.sampleDelivered raw) s = .next t ∧ (t.chan c).last = some l ∧ l.takenAt = s.time.uptime ∧
      (s.serv.subst.get c = none →
        l.raw = some raw.toNat ∧ l.substituted = false ∧ (l.rail = true ↔ raw = 0#12 ∨ raw = 4095#12) ∧ l.value = c.scaled raw.toNat ∧
        (c = .rh → raw = 4095#12 → l.value = 1100) ∧
        (l.rail = true → (s.chan c).state = .qualifying ∨ (s.chan c).state = .qualified →
          (t.chan c).state = .faulted ∧ (t.chan c).faultCount = 255)) ∧
      ∀ r, s.serv.subst.get c = some r → l.raw = none ∧ l.rail = false ∧ l.substituted = true ∧ l.value = r.next

/-- A rail reading in QUALIFYING or QUALIFIED is a hard fault, whatever the count and the limit; a stand-in never makes one, but it can
still fault the channel by its count (R21). -/
def Obligations.RailReadingIsHardFault : Prop :=
  ∀ (raw : BitVec 12) (c : Channel) (s : State), s.rst.inReset = false → s.scan.converting = some c →
    (s.chan c).state = .qualifying ∨ (s.chan c).state = .qualified →
    (s.serv.subst.get c = none → raw = 0#12 ∨ raw = 4095#12 →
      ∃ t l, exec (.sampleDelivered raw) s = .next t ∧ l.rail = true ∧
        t.chan c = { s.chan c with last := some l, faultCount := 255, window := [], run := 0, value := none, state := .faulted }) ∧
    ∀ r, s.serv.subst.get c = some r →
      ∃ t, exec (.sampleDelivered raw) s = .next t ∧ ((s.chan c).faultCount ≤ 254 → (t.chan c).faultCount ≤ 254) ∧
        (c.inRange r.next = false → (s.chan c).faultCount < 254 → (s.chan c).faultLimit ≤ (s.chan c).faultCount + 1 →
          (t.chan c).state = .faulted)

/-- SAMPLE_DELIVERED: the step advances, a stand-in advances, and the sample goes to its channel's record alone, by the tests for a rail
reading, an out-of-range value, a jump and acceptance, in this order (R3, R10, R13, R20 to R25). -/
def Obligations.SampleReachesItsChannel : Prop :=
  ∀ (raw : BitVec 12) (c : Channel) (s : State), s.rst.inReset = false → s.scan.converting = some c →
    let old := s.chan c
    let smp := s.sampleFor c raw.toNat
    let out := if 254 ≤ old.faultCount then old.faultCount else old.faultCount + 1
    let window := if old.window.length < 4 then old.window ++ [smp.value] else old.window.drop 1 ++ [smp.value]
    let run := if old.run = old.threshold then old.run else old.run + 1
    ∃ t new, exec (.sampleDelivered raw) s = .next t ∧ t.chans = s.chans.set c new ∧
      t.scan.converting = none ∧ t.scan.pos = (if s.scan.pos + 1 < s.scan.seq.length then s.scan.pos + 1 else 0) ∧
      t.scan.seq = s.scan.seq ∧ t.serv.subst = s.serv.subst.set c ((s.serv.subst.get c).map Subst.advance) ∧
      t.rst = s.rst ∧ t.time = s.time ∧ t.setup = s.setup ∧ t.link = s.link ∧
      (old.state ≠ .qualifying → old.state ≠ .qualified → new = { old with last := some smp }) ∧
      (old.state = .qualifying ∨ old.state = .qualified →
        (smp.rail = true →
          new = { old with last := some smp, state := .faulted, window := [], run := 0, value := none, faultCount := 255 }) ∧
        (smp.rail = false → smp.value < c.scale.validLow ∨ c.scale.validHigh < smp.value →
          new = { old with
            last := some smp, state := if old.faultLimit ≤ out then .faulted else .qualifying, window := [], run := 0, value := none,
            faultCount := out }) ∧
        (smp.rail = false → c.scale.validLow ≤ smp.value → smp.value ≤ c.scale.validHigh →
          (∀ v, old.window.getLast? = some v → c.scale.stepLimit < (smp.value - v).natAbs →
            new = { old with
              last := some { smp with accepted := true }, lastAccepted := some s.time.uptime, window := [smp.value], run := 1,
              state := if old.threshold ≤ 1 then .qualified else .qualifying,
              value := if old.threshold ≤ 1 then some smp.value else none }) ∧
          ((∀ v, old.window.getLast? = some v → (smp.value - v).natAbs ≤ c.scale.stepLimit) →
            new = { old with
              last := some { smp with accepted := true }, lastAccepted := some s.time.uptime, window := window, run := run,
              state := if old.state = .qualified ∨ run = old.threshold then .qualified else .qualifying,
              value := if old.state = .qualified ∨ run = old.threshold then some (roundDiv window.sum window.length) else old.value })))

/-- PM_WARMUP_END: PM goes from WARMING to QUALIFYING with an empty window, and only its record and what reads it change (R28). -/
def Obligations.WarmupEndStartsQualifying : Prop :=
  ∀ s : State, s.rst.inReset = false → (s.chan .pm).state = .warming → (s.chan .pm).warmup = some 0 →
    ∃ t, exec .pmWarmupEnd s = .next t ∧
      t.kept = { s.kept with
        chans := s.chans.set .pm { s.chan .pm with state := .qualifying, window := [], run := 0, value := none },
        clean := t.clean, rows := t.kept.rows } ∧
      ((s.chan .pm).value = none → t.clean = s.clean ∧ t.arb.clean = s.arb.clean)

/-! The Airflow Arbiter and the Fan Drive -/

/-- The grant is the first case of R42 that applies, with the ceiling of R40 as the smallest of the inputs that stand. A change of it is
taken by the Fan Drive in the same event, state by state (R43, R50, R55); with no change nothing is passed on. -/
def Obligations.GrantIsComputedAndTakenByTheFan : Prop :=
  (∀ s : State,
    let want := s.largestAtLeast
    let capped := min want s.ceiling
    (s.water.cover.filtered = true → s.computedGrant = 0) ∧
    (s.water.cover.filtered = false →
      (s.arb.service.exact = true → s.computedGrant = s.arb.service.level) ∧
      (s.arb.service.exact = false → s.arb.dry.exact = true → s.computedGrant = s.arb.dry.level) ∧
      (s.arb.service.exact = false → s.arb.dry.exact = false → s.arb.filter.exact = true → s.computedGrant = s.arb.filter.level) ∧
      (s.arb.service.exact = false → s.arb.dry.exact = false → s.arb.filter.exact = false →
        s.computedGrant = if s.comp.on = true ∧ capped < s.setup.dryFloor then s.setup.dryFloor else capped)) ∧
    (∀ n : RowName, (s.arb.row n).active = true → (s.arb.row n).kind = .atLeast → (s.arb.row n).level ≤ want) ∧
    (want = 0 ∨ ∃ n : RowName, (s.arb.row n).active = true ∧ (s.arb.row n).kind = .atLeast ∧ want = (s.arb.row n).level) ∧
    s.ceiling ≤ s.arb.hostCeiling ∧ (s.supplyLow = true → s.ceiling ≤ s.setup.lowCeiling) ∧
    (s.clogged = true → s.ceiling ≤ s.setup.clogCap) ∧
    (s.ceiling = s.arb.hostCeiling ∨ (s.supplyLow = true ∧ s.ceiling = s.setup.lowCeiling) ∨
      (s.clogged = true ∧ s.ceiling = s.setup.clogCap))) ∧
  (∀ s : State,
    let g := s.computedGrant
    let aimed := { s.fan with target := (s.levelEntry g).speed }
    let idle := { aimed with measured := none, atLevel := false, settleCount := 0, discard := false, edge := false, periods := 0, periodSum := 0 }
    (g = s.arb.granted → updateGrant s = s) ∧
    (g ≠ s.arb.granted → ∃ f, updateGrant s = { s with arb := { s.arb with granted := g }, fan := f } ∧
      (s.fan.state = .off → g = 0 ∨ s.fan.fault = true → f = aimed) ∧
      (s.fan.state = .off → g ≠ 0 → s.fan.fault = false → f = { idle with state := .spinningUp, timer := 0 }) ∧
      (s.fan.state = .spinningUp → f = if g = 0 then { idle with state := .off } else aimed) ∧
      (s.fan.state = .running → f = if g = 0 then { idle with state := .off } else { aimed with atLevel := false, settleCount := 0 }) ∧
      (s.fan.state = .stalled → f = if g = 0 then { idle with state := .off } else aimed) ∧
      (s.fan.state = .fault → f = if s.water.cover.filtered = true then { idle with state := .off } else aimed)))

/-- FAN_CEILING and FAN_BOOST: the refusals in their order; else the host ceiling becomes the level (R41), and the BOOST row is released, or set
AT_LEAST with its remaining time (R46). The replies are built after everything that follows, which is the model's deduction (log entry 29),
and their bytes stand in the order and widths of log entry 6. -/
def Obligations.CeilingAndBoostRequests : Prop :=
  (∀ (level : Byte) (s : State), s.listening →
    let h := clearSilence s
    let t := h.after { h with arb := { h.arb with hostCeiling := level.toNat } }
    exec (.fanCeiling level) s = .next (
      if h.link.part ≠ .active then h.declined (.fanCeiling level) .wrongState 0
      else if 12 < level.toNat then h.declined (.fanCeiling level) .badValue 0
      else t.replied (.fanCeiling level) (field 1 t.arb.hostCeiling ++ field 1 t.ceiling ++ field 1 t.arb.granted))) ∧
  (∀ (level : Byte) (duration : Half) (s : State), s.listening →
    let h := clearSilence s
    let off := h.after { h with arb := { h.arb with boost := { h.arb.boost with active := false }, boostRemaining := none } }
    let on := h.after { h with arb := { h.arb with
      boost := { active := true, kind := .atLeast, level := level.toNat, takenAt := h.time.uptime },
      boostRemaining := if duration.toNat = 0 then none else some duration.toNat } }
    exec (.fanBoost level duration) s = .next (
      if h.link.part ≠ .active then h.declined (.fanBoost level duration) .wrongState 0
      else if 12 < level.toNat then h.declined (.fanBoost level duration) .badValue 0
      else if level.toNat = 0 then off.replied (.fanBoost level duration) (boostBytes off)
      else if 14400 < duration.toNat then h.declined (.fanBoost level duration) .badValue 1
      else on.replied (.fanBoost level duration) (boostBytes on)))

/-- TACH_EDGE: the first edge takes SPINNING_UP to RUNNING; in RUNNING the first period is discarded and each later one counted; in the
other states an edge is ignored (R50, R51). A measured speed is the nearest whole rpm to 30 divided by the mean period (R51), and a
measurement is in the band from 92 % to 108 % of the target, both ends included (R52). That the period is in nanoseconds, on which the
constant 30000000000 rests, and that a period of 0 is no period, left out here, is the model's choice (log entry 17). The state timer counts
from 0 in RUNNING, which the model deduces from R49, R51 and R53 (log entry 47). -/
def Obligations.TachEdgesAreCountedAndMeasured : Prop :=
  (∀ (period : Nat) (s : State), s.rst.inReset = false → 0 < period →
    (s.fan.state = .spinningUp →
      exec (.tachEdge period) s = .next (s.after { s with fan := { s.fan with
        state := .running, timer := 0, runTime := 0, measured := none, atLevel := false, settleCount := 0, discard := true, edge := true,
        periods := 0, periodSum := 0 } })) ∧
    (s.fan.state = .running → s.fan.discard = true →
      exec (.tachEdge period) s = .next (s.after { s with fan := { s.fan with discard := false, edge := true } })) ∧
    (s.fan.state = .running → s.fan.discard = false →
      exec (.tachEdge period) s = .next (s.after { s with fan := { s.fan with
        edge := true, periods := s.fan.periods + 1, periodSum := s.fan.periodSum + period } })) ∧
    (s.fan.state ≠ .spinningUp → s.fan.state ≠ .running → exec (.tachEdge period) s = .next (s.after s))) ∧
  ((∀ n sum : Nat, 0 < n → 0 < sum →
    2 * (meanRpm n sum * sum) ≤ 2 * (30000000000 * n) + sum ∧ 2 * (30000000000 * n) ≤ 2 * (meanRpm n sum * sum) + sum) ∧
  (∀ target speed : Nat, inBand target speed = true ↔ 92 * target ≤ 100 * speed ∧ 100 * speed ≤ 108 * target) ∧
  inBand 700 643 = false ∧ inBand 700 644 = true ∧ inBand 700 756 = true ∧ inBand 700 757 = false)

/-- BOOST_EXPIRY, FAN_STALL, FAN_RETRY and STALL_COUNT_EXPIRY, where each is due (R47, R51, R53 to R55). That the measured speed is absent and
the state timer 0 in FAULT too, as R53 has it for STALLED, is the model's choice (log entry 48). -/
def Obligations.FanAndBoostEventsWhenDue : Prop :=
  ∀ s : State, s.rst.inReset = false →
    let idle := { s.fan with measured := none, atLevel := false, settleCount := 0, discard := false, edge := false, periods := 0, periodSum := 0 }
    (s.arb.boostRemaining = some 0 →
      exec .boostExpiry s = .next (s.after { s with arb := { s.arb with
        boost := { s.arb.boost with active := false }, boostRemaining := none } })) ∧
    ((s.fan.state = .spinningUp ∧ 3 ≤ s.fan.timer) ∨ (s.fan.state = .running ∧ 2 ≤ s.fan.timer) →
      (s.fan.stalls < 2 →
        exec .fanStall s = .next (s.after { s with fan := { idle with state := .stalled, stalls := s.fan.stalls + 1, timer := 0 } })) ∧
      (2 ≤ s.fan.stalls →
        exec .fanStall s = .next (s.after { s with fan := { idle with state := .fault, stalls := 3, fault := true, timer := 0 } }))) ∧
    (s.fan.state = .stalled → 10 ≤ s.fan.timer →
      exec .fanRetry s = .next (s.after { s with fan :=
        if s.arb.granted = 0 then { idle with state := .off } else { idle with state := .spinningUp, timer := 0 } })) ∧
    (s.fan.state = .running → s.fan.runTime = 300 →
      exec .stallCountExpiry s = .next (s.after { s with fan := { s.fan with stalls := 0 } }))

/-! The Cleaning Controller -/

/-- CLEAN_MODE: the refusals in their order, else PM_PWR, PM's record, the cleaning record and its row as the table of R62 has them, and
the reply from the state after it (R27, R61 to R63, R73). -/
def Obligations.CleanModeChangesModePowerAndRow : Prop :=
  ∀ (mode level : Byte) (s : State), s.listening →
    let h := clearSilence s
    let r := Request.cleanMode mode level
    let wasOff : Bool := decide (h.clean.mode = .off)
    let pm := h.chan .pm
    let lit : Chan :=
      if wasOff = false then pm
      else if pm.state = .off ∧ .pm ∈ h.scan.members then
        { pm with warmup := some h.setup.pmWarmup, state := .warming, window := [], run := 0, value := none }
      else { pm with warmup := some h.setup.pmWarmup }
    let dark : Chan :=
      if pm.state = .faulted ∨ pm.state = .off then { pm with warmup := none }
      else { pm with warmup := none, state := .off, window := [], run := 0, value := none }
    let idle : Cleaning := { h.clean with
      manualLevel := none, autoLevel := none, basis := none, band := none, stepDown := none, unqualified := none, pmPwr := true }
    let auto : Cleaning :=
      match lit.value with
      | none => { idle with mode := .auto, basis := some .fallback, autoLevel := some h.setup.cleanFallback }
      | some v =>
        match targetBand h.setup.bands v with
        | none => { idle with mode := .auto, basis := some .floor, autoLevel := some h.setup.autoFloor }
        | some k => { idle with mode := .auto, basis := some .band, band := some k, autoLevel := some (h.setup.levelOf (some k)) }
    (h.link.part ≠ .active → exec (.cleanMode mode level) s = .next (h.declined r .wrongState 0)) ∧
    (h.link.part = .active →
      (2 < mode.toNat → exec (.cleanMode mode level) s = .next (h.declined r .badValue 0)) ∧
      (mode = 1#8 → level.toNat = 0 ∨ 12 < level.toNat → exec (.cleanMode mode level) s = .next (h.declined r .badValue 1)) ∧
      (mode = 0#8 ∧ wasOff = true ∨ mode = 2#8 ∧ h.clean.mode = .auto →
        exec (.cleanMode mode level) s = .next ((h.after h).replied r (cleanBytes (h.after h)))) ∧
      (mode = 0#8 → wasOff = false → ∃ t : State, exec (.cleanMode mode level) s = .next (t.replied r (cleanBytes t)) ∧
        t.kept = { h.kept with
          chans := h.chans.set .pm dark, clean := { idle with mode := .off, pmPwr := false },
          rows := (if h.clean.claimed = none then h.arb.clean else { h.arb.clean with active := false }, h.kept.rows.2) }) ∧
      (mode = 1#8 → 1 ≤ level.toNat → level.toNat ≤ 12 → (wasOff = true → h.clean.pmPwr = false) → (wasOff = false → h.clean.pmPwr = true) →
        ∃ t : State, exec (.cleanMode mode level) s = .next (t.replied r (cleanBytes t)) ∧
        t.kept = { h.kept with
          chans := h.chans.set .pm lit, clean := { idle with mode := .manual, manualLevel := some level.toNat },
          rows := (if h.clean.claimed = some level.toNat then h.arb.clean
            else { active := true, kind := .atLeast, level := level.toNat, takenAt := h.time.uptime }, h.kept.rows.2) }) ∧
      (mode = 2#8 → h.clean.mode ≠ .auto → (wasOff = true → h.clean.pmPwr = false) → (wasOff = false → h.clean.pmPwr = true) →
        ∃ t : State, exec (.cleanMode mode level) s = .next (t.replied r (cleanBytes t)) ∧
        t.kept = { h.kept with
          chans := h.chans.set .pm lit, clean := auto,
          rows := (if auto.claimed = h.clean.claimed then h.arb.clean
            else if auto.claimed = some 0 then { h.arb.clean with active := false }
            else { active := true, kind := .atLeast, level := auto.autoLevel.getD 0, takenAt := h.time.uptime }, h.kept.rows.2) }))

/-- How AUTO takes a new qualified value of PM: a step-up at once, else the step-down timer by the exit threshold of the band (R66, R67),
and with basis CARRIED or FALLBACK the target at once if it justifies the carried level, else the timer (R71). The target band is the
highest whose enter threshold the value meets, and a step-down's band the highest whose exit threshold it still meets (R66, R67, R71). -/
def Obligations.AutoLevelFollowsTheValue : Prop :=
  (∀ (u : Setup) (v : Int) (c : Cleaning),
    let target := targetBand u.bands v
    let c0 := { c with unqualified := none }
    let up : Cleaning := { c0 with
      basis := some (if target = none then .floor else .band), band := target, autoLevel := some (u.levelOf target), stepDown := none }
    (c.basis = some .floor → c.takeValue u v = if target = none then { c0 with stepDown := none } else up) ∧
    (∀ k b, c.basis = some .band → c.band = some k → 0 < k → u.bands[k - 1]? = some b →
      c.takeValue u v =
        if k < target.getD 0 then up
        else if v < b.leave then { c0 with stepDown := some (c.stepDown.getD 0) }
        else { c0 with stepDown := none }) ∧
    (c.basis = some .carried → c.takeValue u v =
      if c.autoLevel.getD 0 ≤ u.levelOf target then up else { c0 with stepDown := some (c.stepDown.getD 0) }) ∧
    (c.basis = some .fallback → c.takeValue u v =
      if c.autoLevel.getD 0 ≤ u.levelOf target then up else { c0 with basis := some .carried, stepDown := some (c.stepDown.getD 0) })) ∧
  (∀ (bands : List Band) (v : Int),
    (∀ k, targetBand bands v = some k ↔ ∃ b, 0 < k ∧ bands[k - 1]? = some b ∧ (b.enter : Int) ≤ v ∧
      ∀ j c, k ≤ j → bands[j]? = some c → v < c.enter) ∧
    (∀ k, exitBand bands v = some k ↔ ∃ b, 0 < k ∧ bands[k - 1]? = some b ∧ (b.leave : Int) ≤ v ∧
      ∀ j c, k ≤ j → bands[j]? = some c → v < c.leave))

/-- CLEAN_STEP_DOWN, CARRIED_STEP_DOWN and CLEAN_FALLBACK_TIMEOUT, where each is due: the record, and the CLEAN row where the claimed level
changes (R67, R69, R71, R73). The two step-downs are tests of the tick alone; the note that a tick's tests are still to be made is the
model's own (log entry 51). -/
def Obligations.CleaningTimersWhenDue : Prop :=
  ∀ s : State, s.rst.inReset = false → s.clean.mode = .auto →
    let row := fun (level : Nat) =>
      if s.clean.autoLevel = some level then s.arb.clean
      else if level = 0 then { s.arb.clean with active := false }
      else { active := true, kind := RowKind.atLeast, level := level, takenAt := s.time.uptime : Row }
    let down := fun (band : Option Nat) =>
      s.after { s with
        clean := { s.clean with
          basis := some (if band = none then .floor else .band), band := band, autoLevel := some (s.setup.levelOf band), stepDown := none },
        arb := { s.arb with clean := row (s.setup.levelOf band) } }
    (∀ v k n, s.time.tested = false → s.clean.basis = some .band → s.clean.band = some k → s.clean.stepDown = some n → s.setup.stepDownHold ≤ n →
      s.qual .pm = some v →
      exec .cleanStepDown s = .next (down (exitBand (s.setup.bands.take (k - 1)) v))) ∧
    (∀ v n, s.time.tested = false → s.clean.basis = some .carried → s.clean.stepDown = some n → s.setup.stepDownHold ≤ n → s.qual .pm = some v →
      exec .carriedStepDown s = .next (down (exitBand s.setup.bands v))) ∧
    (∀ n, s.clean.unqualified = some n → 600 ≤ n →
      exec .cleanFallbackTimeout s = .next (s.after { s with
        clean := { s.clean with
          basis := some .fallback, autoLevel := some s.setup.cleanFallback, band := none, stepDown := none, unqualified := none },
        arb := { s.arb with clean := row s.setup.cleanFallback } }))

/-! The drying cycle -/

/-- DRY_MODE: the refusals in their order; else mode, setpoint and mode demand are stored, the cycle at level 0 and the waiting contexts at
levels 1 and 2 take them by the phase, and the reply is built after what follows (R77 to R79, R94, R110). The model's deductions: a request
for OFF in OFF or CONTINUOUS in CONTINUOUS, which changes nothing else (R77), marks or clears the waiting context too (R110; log entry 25),
the reply comes after a start attempt that may follow (log entry 29), and it carries the end-after flag of an empty slot as absent (log
entry 19). -/
def Obligations.DryModeStoresModeAndDemand : Prop :=
  ∀ (mode setpoint : Byte) (s : State), s.listening →
    let h := clearSilence s
    let r := Request.dryMode mode setpoint
    let answered := fun (u : State) => (h.after u).replied r (dryBytes (h.after u))
    let run := exec (.dryMode mode setpoint) s
    (h.link.part ≠ .active → run = .next (h.declined r .wrongState 0)) ∧
    (h.link.part = .active → h.setup.optCompressor = false → run = .next (h.declined r .notFitted 0)) ∧
    (h.link.part = .active → h.setup.optCompressor = true →
      (2 < mode.toNat → run = .next (h.declined r .badValue 0)) ∧
      (mode = 1#8 → setpoint.toNat < 35 ∨ 70 < setpoint.toNat → run = .next (h.declined r .badValue 1)) ∧
      (mode = 0#8 ∧ h.dry.mode = .off ∨ mode = 2#8 ∧ h.dry.mode = .continuous → h.dry.level = .normal → run = .next (answered h)) ∧
      (mode = 2#8 → h.dry.mode ≠ .continuous → h.dry.level = .normal →
        run = .next (answered { h with dry := { h.dry with mode := .continuous, demand := true } })) ∧
      (mode = 1#8 → 35 ≤ setpoint.toNat → setpoint.toNat ≤ 70 → h.dry.level = .normal →
        let held := match h.dry.mode with | .off => false | .target => h.dry.demand | .continuous => true
        let demand := match h.qual .rh with
          | none => false
          | some v => if (setpoint.toNat : Int) * 10 + 30 ≤ v then true else if v ≤ (setpoint.toNat : Int) * 10 - 20 then false else held
        let d := { h.dry with mode := .target, setpoint := setpoint.toNat, demand := demand }
        (demand = true ∨ h.compressorRun = true ∨ h.dry.demand = false ∨ h.dry.phase ≠ .idle → run = .next (answered { h with dry := d })) ∧
        (demand = false → h.compressorRun = false → h.dry.demand = true → h.dry.phase = .idle →
          (h.dry.startWait = none → run = .next (answered { h with dry := { d with retryWait := none } })) ∧
          (h.dry.startWait ≠ none →
            run = .next (answered ({ h with dry := { d with startWait := none, retryWait := none } } : State).dryReleased)))) ∧
      (mode = 0#8 → h.dry.mode ≠ .off → h.dry.level = .normal →
        let d := { h.dry with mode := .off, demand := false, dryWeak := false, weak := 0, riseRef := none }
        let v : State := { h with dry := d }
        (h.compressorRun = true ∨ h.dry.phase = .stopping ∨ h.dry.phase = .lockout → run = .next (answered v)) ∧
        (h.compressorRun = false →
          (h.dry.phase = .idle → h.dry.startWait ≠ none ∨ h.dry.sampleTimer ≠ none →
            run = .next (answered
              ({ h with dry := { d with startWait := none, retryWait := none, sampleTimer := none, idleTimer := none } } : State).dryReleased)) ∧
          (h.dry.phase = .idle → h.dry.startWait = none → h.dry.sampleTimer = none →
            run = .next (answered { h with dry := { d with retryWait := none, idleTimer := none } })) ∧
          (h.dry.phase = .starting → run = .next (answered (h.compStopped .modeOff { d with phase := .lockout }).dryReleased)) ∧
          (h.dry.phase = .running → run = .next (answered (h.compStopped .modeOff { d with phase := .stopping, runOn := some 0 }))))) ∧
      (mode.toNat ≤ 2 → (mode = 1#8 → 35 ≤ setpoint.toNat ∧ setpoint.toNat ≤ 70) → h.dry.level ≠ .normal →
        let becomesOff : Bool := decide (mode = 0#8 ∧ h.dry.mode ≠ .off)
        let mark := fun (c : Option Context) => c.map fun c => { c with endAfter := decide (mode = 0#8) }
        let under : Bool := decide (h.dry.level = .defrost) || decide (h.dry.slot2.map Context.kind = some .defrost)
        let m : DryMode := if mode = 0#8 then .off else if mode = 1#8 then .target else .continuous
        run = .next (answered { h with dry := { h.dry with
          mode := m, setpoint := if mode = 1#8 then setpoint.toNat else h.dry.setpoint,
          demand := if m = h.dry.mode ∧ m ≠ .target then h.dry.demand else demandAfter h m setpoint.toNat,
          dryWeak := if becomesOff then false else h.dry.dryWeak, weak := if becomesOff then 0 else h.dry.weak,
          riseRef := if becomesOff then none else h.dry.riseRef,
          slot1 := if under then mark h.dry.slot1 else h.dry.slot1, slot2 := if under then h.dry.slot2 else mark h.dry.slot2 } })))

/-- The quiet events of the cycle, where each is due: the start attempt and its three ends, the lockout's end, the idle sample and the
run-on's end (R80 to R82, R89, R90, R92). The lockout ends at a tick alone; the note that a tick's tests are still to be made is the model's
own (log entry 51). -/
def Obligations.CyclePhaseEventsWhenDue : Prop :=
  ∀ s : State, s.rst.inReset = false →
    (s.time.tested = false → s.lockoutDue → exec .lockoutEnd s = .next (s.after { s with dry := { s.dry with phase := .idle } })) ∧
    (s.attemptDue → exec .startAttempt s = .next (s.after
      (({ s with dry := { s.dry with startWait := some 0, sampleTimer := none, idleTimer := none } } : State).drySet .atLeast s.setup.dryFloor))) ∧
    (s.startWaiting → s.mayStart → s.fanReady → s.setup.optCompressor = true →
      exec .fanReadyStart s = .next (s.after { s with
        comp := { request := true, on := true },
        dry := { s.dry with
          startWait := none, phase := .starting, onTime := some 0, currentSeen := false, lastStart := none, runStart := s.time.uptime,
          runTank := s.qual .tankLvl } })) ∧
    (s.waitTimedOut → exec .startWaitTimeout s = .next (s.after
      ({ s with dry := { s.dry with startWait := none, retryWait := some 0 } } : State).dryReleased)) ∧
    (s.retryOver → exec .retryWaitEnd s = .next (s.after { s with dry := { s.dry with retryWait := none } })) ∧
    (s.idleOver → exec .idleSampleStart s = .next (s.after
      (({ s with dry := { s.dry with idleTimer := none, sampleTimer := some 0 } } : State).drySet .atLeast 2))) ∧
    (s.sampleOver → exec .idleSampleEnd s = .next (s.after ({ s with dry := { s.dry with sampleTimer := none } } : State).dryReleased)) ∧
    (s.runOnOver → exec .runOnEnd s = .next (s.after ({ s with dry := { s.dry with runOn := none, phase := .lockout } } : State).dryReleased))

/-- The judgement of a start at on time 3 and 5, and the trip of a run: a failure with its reason and phase, or the start is confirmed
(R83, R84, R87). -/
def Obligations.StartsAndRunsAreJudgedByCurrent : Prop :=
  ∀ s : State, s.rst.inReset = false → s.dry.level = .normal →
    (s.dry.phase = .starting → s.dry.onTime = some 3 → s.dry.currentSeen = false →
      exec .currentCheck3 s = .next (s.after (s.failed .noCurrent .starting))) ∧
    (s.dry.phase = .starting → s.dry.onTime = some 5 →
      (s.qual .compI = none → s.dry.lastStart = none → exec .startConfirmation s = .next (s.after (s.failed .noCurrent .starting))) ∧
      (∀ v, s.qual .compI = some v ∨ (s.qual .compI = none ∧ s.dry.lastStart = some v) →
        let judged : State := { s with dry := { s.dry with
          lastStart := some v, currentSeen := s.dry.currentSeen || (decide (80 ≤ v) && (s.qual .compI).isSome) } }
        (600 < v → exec .startConfirmation s = .next (s.after (judged.failed .overcurrent .starting))) ∧
        (v ≤ 600 → exec .startConfirmation s = .next (s.after { judged with dry := { judged.dry with
          phase := .running, failures := 0, starts := min 4294967295 (s.dry.starts + 1) } })))) ∧
    (∀ n, s.dry.phase = .running → s.dry.trip = some n → 3 ≤ n →
      exec .overcurrentTrip s = .next (s.after (s.failed .overcurrent .running)))

/-- MIN_ON_TIME_STOP and DRY_WEAK_RISE where they are due: the run stops into its run-on; DRY_WEAK rises with 3,600 s of running and, in
TARGET, RH above setpoint + 5.0 (R86, R89, R94). DRY_WEAK_RISE is the test of a tick in RUNNING; the note that a tick's tests are still to be
made is the model's own (log entry 51). -/
def Obligations.DemandLossAndDryWeak : Prop :=
  ∀ s : State, s.rst.inReset = false →
    (∀ n, s.dry.level = .normal → s.dry.phase = .running → s.dry.demand = false → s.compressorRun = false → s.dry.onTime = some n → 120 ≤ n →
      exec .minOnTimeStop s = .next (s.after (s.compStopped .demand { s.dry with phase := .stopping, runOn := some 0 }))) ∧
    (s.time.tested = false → s.dry.level = .normal → s.dry.phase = .running → s.setup.optDrain ≠ .gravity → 3600 ≤ s.dry.weak →
      (s.dry.mode = .continuous ∨ (s.dry.mode = .target ∧ ∃ v, s.qual .rh = some v ∧ (s.dry.setpoint : Int) * 10 + 50 < v)) →
      exec .dryWeakRise s = .next (s.after { s with dry := { s.dry with dryWeak := true } }))

/-! Defrost and holds -/

/-- Either frost trigger enters a defrost: the run is saved in slot 1, COMP_ON goes off, the DRY row turns exact, COIL_T is emphasized and
step STOP begins (R93, R99). PERIODIC_DEFROST_TRIGGER is the test of a tick; the note that a tick's tests are still to be made is the model's
own (log entry 51). -/
def Obligations.FrostTriggerEntersDefrost : Prop :=
  ∀ s : State, s.rst.inReset = false → s.dry.level = .normal → s.dry.phase = .running →
    let now := s.time.uptime
    let t := (s.compStopped .defrost { s.dry with
      slot1 := some { kind := .run, phase := some .running, offTime := now, runSince := s.dry.runSince, cycleStart := s.dry.runStart,
                      cycleTank := s.dry.runTank, step := none, melt := none, endAfter := false },
      phase := .lockout, level := .defrost, step := some .stop, stepTimer := some 0, melt := none, warm := none,
      defrostCount := min 65534 (s.dry.defrostCount + 1), lastDefrost := some { enteredAt := now, ended := none },
      defrostStart := now, defrostTank := s.qual .tankLvl }).drySet .exactly s.setup.defrostLevel
    let u : State := { t with scan := { t.scan with claims := takeClaimIn .dry .coilT s.scan.claims } }
    (∀ n, s.dry.coilFrost = some n → 120 ≤ n → exec .coilFrostTrigger s = .next (s.after u)) ∧
    (∀ v, s.time.tested = false → 2400 ≤ s.dry.runSince → s.qual .roomT = some v → v < 150 → exec .periodicDefrostTrigger s = .next (s.after u))

/-- Step STOP ends on the current or after 5 s: MELT begins with 900 s, or, with causes deferred, the defrost is suspended at once
(R100, R105, R107). -/
def Obligations.StopStepEndsInMeltOrHold : Prop :=
  ∀ s : State, s.rst.inReset = false → s.dry.level = .defrost → s.dry.step = some .stop →
    (∃ n, s.dry.stepTimer = some n ∧ 5 ≤ n) ∨ (∃ v, s.qual .compI = some v ∧ v < 30) →
    (s.dry.deferred = [] →
      exec .defrostStopEnd s = .next (s.after { s with dry := { s.dry with
        holdSet := [], step := some .melt, stepTimer := none, melt := some 900, warm := none } })) ∧
    (s.dry.deferred ≠ [] →
      let t := ({ s with dry := { s.dry with
        holdSet := s.dry.deferred, deferred := [], level := .hold, step := none, stepTimer := none, melt := none, warm := none,
        slot2 := some { kind := .defrost, phase := none, offTime := s.dry.offTime, runSince := s.dry.runSince,
                        cycleStart := s.dry.defrostStart, cycleTank := s.dry.defrostTank, step := some .melt, melt := some 900,
                        endAfter := false } } } : State).dryReleased
      exec .defrostStopEnd s = .next (s.after { t with scan := { t.scan with claims := releaseClaimIn .dry s.scan.claims } }))

/-- The end of a melt ends the defrost: the record, the releases, slot 1 restored into LOCKOUT, DEFROST's fall and then DEFROST_END (R101,
R102). -/
def Obligations.MeltEndRestoresTheRun : Prop :=
  ∀ (s : State) (c : Context) (l : LastDefrost), s.rst.inReset = false → s.dry.level = .defrost → s.dry.step = some .melt →
    s.dry.slot1 = some c → s.dry.lastDefrost = some l →
    let warmed : Bool := match s.dry.warm with | some n => decide (30 ≤ n) | none => false
    warmed = true ∨ s.dry.melt = some 0 →
    let t := ({ s with dry := { s.dry with
      lastDefrost := some { l with ended := some (DefrostEnd.mk s.time.uptime (if warmed then .normal else .timeout) (900 - s.dry.melt.getD 0)) },
      slot1 := none, level := .normal, phase := .lockout, offTime := c.offTime, runSince := 0, step := none, stepTimer := none, melt := none,
      warm := none,
      lastStop := if c.endAfter then s.dry.lastStop.map fun l => { l with reason := .modeOff } else s.dry.lastStop } } : State).dryReleased
    exec .defrostEnd s =
      .next (s.after (oneShot 23 (publish { t with scan := { t.scan with claims := releaseClaimIn .dry s.scan.claims } })))

/-- A hold entered from level 0: COMP_ON off where it was on, the context of the phase saved in slot 2, every wait and the run-on ended,
and the DRY row released (R106); from MELT: a DEFROST context with the melt remaining (R107). -/
def Obligations.HoldEntrySavesTheContext : Prop :=
  ∀ (cause : HoldCause) (s : State), s.dry.holdSet = [] →
    (s.dry.level = .normal →
      let on := s.dry.phase = .starting ∨ s.dry.phase = .running
      let v := if on then s.compStopped .hold s.dry else s
      let context : Context :=
        match s.dry.phase with
        | .starting => ⟨.run, some .starting, v.dry.offTime, s.dry.runSince, s.dry.runStart, s.dry.runTank, none, none, false⟩
        | .running => ⟨.run, some .running, v.dry.offTime, s.dry.runSince, s.dry.runStart, s.dry.runTank, none, none, false⟩
        | .stopping => ⟨.run, some .stopping, v.dry.offTime, s.dry.runSince, s.dry.runStart, s.dry.runTank, none, none, false⟩
        | .idle => ⟨.idle, none, v.dry.offTime, s.dry.runSince, v.dry.offTime, v.dry.offTank, none, none, false⟩
        | .lockout => ⟨.idle, none, v.dry.offTime, s.dry.runSince, v.dry.offTime, v.dry.offTank, none, none, false⟩
      raiseCause cause s = ({ v with dry := { v.dry with
        holdSet := [cause], slot2 := some context, level := .hold, phase := .lockout, startWait := none, retryWait := none,
        idleTimer := none, sampleTimer := none, runOn := none } } : State).dryReleased) ∧
    (∀ m, s.dry.level = .defrost → s.dry.step = some .melt → s.dry.melt = some m →
      let t := ({ s with dry := { s.dry with
        holdSet := [cause], level := .hold, step := none, melt := none, warm := none,
        slot2 := some ⟨.defrost, none, s.dry.offTime, s.dry.runSince, s.dry.defrostStart, s.dry.defrostTank, some .melt, some m, false⟩ } } :
          State).dryReleased
      raiseCause cause s = { t with scan := { t.scan with claims := releaseClaimIn .dry s.scan.claims } })

/-- The clear that empties the hold-cause set restores slot 2 by its kind (R109); a raise or clear that leaves the set non-empty changes the
set alone (R103, R108); in step STOP only the deferred set changes (R104). -/
def Obligations.HoldEndRestoresTheContext : Prop :=
  ∀ (cause : HoldCause) (s : State) (c : Context),
    (s.dry.level = .hold → s.dry.holdSet = [cause] → s.dry.slot2 = some c →
      (c.kind = .idle → clearCause cause s = { s with dry := { s.dry with
        holdSet := [], slot2 := none, level := .normal, offTime := c.offTime, runSince := c.runSince,
        phase := if s.dry.disabled = false ∧ c.offTime + 181 ≤ s.time.uptime then .idle else .lockout } }) ∧
      (c.kind = .run → clearCause cause s = { s with dry := { s.dry with
        holdSet := [], slot2 := none, level := .normal, phase := .lockout, offTime := c.offTime, runSince := c.runSince,
        lastStop := if c.endAfter then s.dry.lastStop.map fun l => { l with reason := .modeOff } else s.dry.lastStop } }) ∧
      (∀ m, c.kind = .defrost → c.melt = some m →
        let t := ({ s with dry := { s.dry with
          holdSet := [], slot2 := none, level := .defrost, step := some .melt, stepTimer := none, melt := some m, warm := none,
          offTime := c.offTime, runSince := c.runSince } } : State).drySet .exactly s.setup.defrostLevel
        clearCause cause s = { t with scan := { t.scan with claims := takeClaimIn .dry .coilT s.scan.claims } })) ∧
    (s.dry.level = .hold → s.dry.holdSet ≠ [] → cause ∉ s.dry.holdSet →
      raiseCause cause s = { s with dry := { s.dry with holdSet := s.dry.holdSet ++ [cause] } } ∧ clearCause cause s = s) ∧
    (s.dry.level = .hold → cause ∈ s.dry.holdSet → (∃ other ∈ s.dry.holdSet, other ≠ cause) →
      raiseCause cause s = s ∧
      clearCause cause s = { s with dry := { s.dry with holdSet := s.dry.holdSet.filter fun x => decide (x ≠ cause) } }) ∧
    (s.dry.level = .defrost → s.dry.step = some .stop →
      raiseCause cause s = { s with dry := { s.dry with
        deferred := if cause ∈ s.dry.deferred then s.dry.deferred else s.dry.deferred ++ [cause] } } ∧
      clearCause cause s = { s with dry := { s.dry with deferred := s.dry.deferred.filter fun x => decide (x ≠ cause) } })

/-! Tank, drain and pump -/

/-- INPUT_PIN_CHANGE starts, keeps or drops a rejection timer and changes nothing else (R116); in reset the pin alone is followed, which is
the model's choice (log entry 22). The tank state is that of the first line of R118 that applies, FULL held as R119 has it, and the table of GRAVITY (R118 to R120). -/
def Obligations.PinsAndTankStateFollowTheInputs : Prop :=
  (∀ (input : InputPin) (level : Bool) (s : State),
    let new := fun (i : Input) => if s.rst.inReset = true then { i with pin := level }
      else { pin := level, filtered := i.filtered, timing := decide (level ≠ i.filtered) : Input }
    exec (.inputPinChange input level) s = .next (match input with
      | .tankIn => { s with water := { s.water with tankIn := new s.water.tankIn } }
      | .float => { s with water := { s.water with float := new s.water.float } }
      | .cover => { s with water := { s.water with cover := new s.water.cover } })) ∧
  (∀ s : State, ∃ x, tankSync s = { s with water := { s.water with tank := x } } ∧
    (s.water.tankIn.filtered = false → x = .out) ∧
    (s.water.tankIn.filtered = true → s.setup.optDrain = .gravity → x = .normal) ∧
    (s.water.tankIn.filtered = true → s.setup.optDrain ≠ .gravity →
      (s.water.float.filtered = true → x = .full) ∧
      (s.water.tank = .full → s.setup.optDrain = .bucket ∨ s.water.fault = true → x = .full) ∧
      (s.water.float.filtered = false → s.water.tank ≠ .full ∨ (s.setup.optDrain = .pump ∧ s.water.fault = false) →
        (s.qual .tankLvl = none → x = .normal) ∧
        ∀ v, s.qual .tankLvl = some v → x = if 950 ≤ v then .full else if 800 ≤ v then .nearFull else .normal)))

/-- What reaches the readers of an input or of a reading, reader by reader. The accepted inputs: COVER takes a drive with the fault latch
set between OFF and FAULT, and an opening sets the cover-opened flag of all three slots (R55, R116, R117, R137); a tank pulled ends a run in
RUNNING first, with the conditions of the tank latched before PUMP_RUN_END (R158), and then, but in GRAVITY, an emptying is counted with the
held level's water, or as unknown (R116, R122, R126). A sample and its readers (R25): the qualified value is handed on where it has changed,
the model's reading (log entry 31), to the held level, the latest level and the DONE test (R122, R126), the rise reference and DRY_WEAK
(R94), the frost trigger (R93), the start current (R83), the cleaning level (R69, R70) and the check's samples (R146). With the rest of the
event, the drain (R115, R120), the supply state (R154), ROOM_COLD (R104), mode demand (R78), the trip, frost and warm timers (R87, R93,
R101), the check (R145), the abort of the FILTER row (R44), the interlock (R90, R91) and AIRFLOW_SHORT (R45, R88) follow what they read. The
Event Latch takes edges lowest id first and counts an entry up to 15 in its place (R158, R160). How the parts of an event follow each other,
round by round, is the model's choice (log entries 11 and 28). -/
def Obligations.InputsAndReadingsReachTheirReaders : Prop :=
  ((∀ s : State, s.rst.inReset = false → s.water.cover.timing = true → s.water.cover.pin ≠ s.water.cover.filtered →
    let isOpen := s.water.cover.pin
    let opened := fun (r : SlotRec) => if isOpen then { r with coverOpened := true } else r
    exec .coverAccepted s = .next (s.after { s with
      water := { s.water with cover := { pin := isOpen, filtered := isOpen, timing := false } },
      fan := if s.fan.fault = true then { s.fan with
          state := if isOpen then .off else .fault, measured := none, atLevel := false, settleCount := 0, discard := false, edge := false,
          periods := 0, periodSum := 0 }
        else s.fan,
      filt := { s.filt with slots :=
        { pre := opened s.filt.slots.pre, fine := opened s.filt.slots.fine, carbon := opened s.filt.slots.carbon } } })) ∧
  (∀ s : State, s.rst.inReset = false →
    (s.water.float.timing = true → s.water.float.pin ≠ s.water.float.filtered →
      exec .floatAccepted s = .next (s.after { s with water := { s.water with
        float := { pin := s.water.float.pin, filtered := s.water.float.pin, timing := false } } })) ∧
    (s.water.tankIn.timing = true → s.water.tankIn.pin = true → s.water.tankIn.filtered = false →
      exec .tankInAccepted s = .next (s.after { s with water := { s.water with
        tankIn := { pin := true, filtered := true, timing := false } } })) ∧
    (s.water.tankIn.timing = true → s.water.tankIn.pin = false → s.water.tankIn.filtered = true →
      let out : State := { s with water := { s.water with tankIn := { pin := false, filtered := false, timing := false } } }
      let t := if s.water.pump.state = .running then out.pumpEnded .abortedTankOut else out
      exec .tankInAccepted s = .next (s.after (if s.setup.optDrain = .gravity then t else { t with water := { t.water with
        emptyings := min 65535 (t.water.emptyings + 1), held := none,
        unknownEmptyings := if s.water.held = none then min 65535 (t.water.unknownEmptyings + 1) else t.water.unknownEmptyings,
        total := match s.water.held with
          | some v => min 4294967295 (t.water.total + (roundDiv (v * (s.setup.tankCapacity : Int)) 1000).toNat)
          | none => t.water.total } }))))) ∧
  ((∀ (raw : BitVec 12) (c : Channel) (s : State), s.rst.inReset = false → s.scan.converting = some c →
    let old := s.chan c
    let new := old.deliver c (s.sampleFor c raw.toNat)
    let accepted := match new.last with | some l => l.accepted | none => false
    exec (.sampleDelivered raw) s = .next (s.after (notify c accepted old new { s with
      scan := { s.scan with pos := if s.scan.pos + 1 < s.scan.seq.length then s.scan.pos + 1 else 0, converting := none },
      serv := { s.serv with subst := s.serv.subst.set c ((s.serv.subst.get c).map Subst.advance) }, chans := s.chans.set c new }))) ∧
  (∀ (accepted : Bool) (old new : Chan) (s : State),
    let moved := new.value ≠ old.value
    (notify .coilT accepted old new s = s ∧ notify .supply accepted old new s = s) ∧
    (notify .rh accepted old new s = if moved ∧ s.weakDue = true then { s with dry := { s.dry with dryWeak := true } } else s) ∧
    (notify .roomT accepted old new s =
      if (moved ∨ new.state ≠ old.state) ∧ s.dry.level = .normal ∧ s.dry.phase = .running ∧ 2400 ≤ s.dry.runSince ∧
        (∃ v, s.qual .roomT = some v ∧ v < 150) then enterDefrost s else s) ∧
    (let starting := s.dry.level = .normal ∧ s.dry.phase = .starting
     (¬ (moved ∧ new.value.isSome = true ∧ starting) → notify .compI accepted old new s = s) ∧
     ∀ v, moved → new.value = some v → starting → notify .compI accepted old new s =
      { s with dry := { s.dry with lastStart := some v, currentSeen := s.dry.currentSeen || decide (80 ≤ v) } }) ∧
    (let counted := accepted = true ∧ s.filt.check.state = .sampling ∧ new.state = .qualified
     (¬ counted → notify .filterDp accepted old new s = s) ∧
     ∀ smp, counted → new.last = some smp → notify .filterDp accepted old new s = countSample smp.value s) ∧
    (let c := s.clean.react s.setup old new
     notify .pm accepted old new s = { s with
      clean := c,
      arb := { s.arb with clean :=
        if c.claimed = s.clean.claimed then s.arb.clean
        else if c.claimed.getD 0 = 0 then { s.arb.clean with active := false }
        else { active := true, kind := .atLeast, level := c.claimed.getD 0, takenAt := s.time.uptime } } }) ∧
    (let lost := (new.state = .faulted ∨ new.state = .off) ∧ new.state ≠ old.state
     let u : State := if lost then { s with water := { s.water with held := none } } else s
     (¬ (moved ∧ new.value.isSome = true) → notify .tankLvl accepted old new s = u) ∧
     ∀ v, moved → new.value = some v → notify .tankLvl accepted old new s = waterLevel v (followRise v u))) ∧
  (∀ (v : Int) (s : State),
    let u : State := { s with water := { s.water with
      held := if s.setup.optDrain ≠ .gravity ∧ s.water.tankIn.filtered = true then some v else s.water.held,
      pump := { s.water.pump with latestLevel := if s.water.pump.state = .running then some v else s.water.pump.latestLevel } } }
    let done := s.water.pump.state = .running ∧ ∃ x, s.qual .tankLvl = some x ∧ x ≤ 150
    (done → waterLevel v s = u.pumpEnded .done) ∧ (¬ done → waterLevel v s = u)) ∧
  (∀ (v : Int) (s : State),
    (s.dry.riseRef = none → followRise v s = { s with dry := { s.dry with riseRef := some v } }) ∧
    ∀ r, s.dry.riseRef = some r →
      (r + 10 ≤ v → followRise v s = { s with dry := { s.dry with weak := 0, riseRef := some v, dryWeak := false } }) ∧
      (r ≤ v → v < r + 10 → followRise v s = s) ∧ (v < r → followRise v s = { s with dry := { s.dry with riseRef := some v } })) ∧
  (∀ (u : Setup) (old new : Chan) (c : Cleaning),
    let fallen : Cleaning := { c with
      basis := some .fallback, autoLevel := some u.cleanFallback, band := none, stepDown := none, unqualified := none }
    let lost := new.state = .faulted ∨ (new.state = .off ∧ c.pmPwr = true)
    (c.mode ≠ .auto → c.react u old new = c) ∧
    (c.mode = .auto →
      (∀ v, new.state = .qualified → new.value = some v → c.react u old new = if old.value = some v then c else c.takeValue u v) ∧
      (new.state = .qualifying → old.state = .qualified → c.basis ≠ some .fallback →
        c.react u old new = { c with stepDown := none, unqualified := some 0 }) ∧
      (lost → new.state ≠ old.state → c.basis ≠ some .fallback → c.react u old new = fallen) ∧
      (new.state ≠ .qualified → new.state = old.state ∨ c.basis = some .fallback ∨ new.state = .warming ∨
        (new.state = .qualifying ∧ old.state ≠ .qualified) → c.react u old new = c)))) ∧
  ((∀ s : State,
    let applies := s.setup.optDrain = .gravity ∧ s.water.tankIn.filtered = true
    let u := fun (b : Bool) (t : Option Nat) => { s with water := { s.water with drainBlocked := b, drainClear := t } : State }
    (¬ applies → drainSync s = u false none) ∧
    (applies → s.water.float.filtered = true → drainSync s = u true none) ∧
    (applies → s.water.float.filtered = false → s.water.drainBlocked = true → s.water.drainClear = none → drainSync s = u true (some 0)) ∧
    (applies → s.water.float.filtered = false → s.water.drainBlocked = false ∨ s.water.drainClear ≠ none → drainSync s = s)) ∧
  (∀ s : State,
    let c := s.chan .supply
    let lost := c.state = .faulted ∨ c.state = .off
    (lost → supplySync s = { s with supplyLow := true }) ∧
    (¬ lost → c.value = none → supplySync s = s) ∧
    ∀ v, ¬ lost → c.value = some v →
      supplySync s = { s with supplyLow :=
        if v ≤ s.setup.supplyWarn then true else if (s.setup.supplyWarn : Int) + 100 ≤ v then false else s.supplyLow }) ∧
  (∀ s : State, (s.qual .roomT = none → roomSync s = s) ∧ ∀ v, s.qual .roomT = some v →
    roomSync s = { s with dry := { s.dry with roomCold := if v < 50 then true else if 60 ≤ v then false else s.dry.roomCold } }) ∧
  (∀ s : State, (s.dry.mode ≠ .target → demandSync s = s) ∧
    (s.dry.mode = .target → s.qual .rh = none → demandSync s = { s with dry := { s.dry with demand := false } }) ∧
    ∀ v, s.dry.mode = .target → s.qual .rh = some v → demandSync s = { s with dry := { s.dry with demand :=
      if (s.dry.setpoint : Int) * 10 + 30 ≤ v then true else if v ≤ (s.dry.setpoint : Int) * 10 - 20 then false else s.dry.demand } }) ∧
  (∀ s : State,
    let melting := s.dry.level = .defrost ∧ s.dry.step = some .melt
    let running := s.dry.level = .normal ∧ s.dry.phase = .running
    let started := fun (t : Option Nat) => some (t.getD 0)
    (melting →
      (∀ v, s.qual .coilT = some v → 40 ≤ v → timerSync s = { s with dry := { s.dry with warm := started s.dry.warm } }) ∧
      ((∀ v, s.qual .coilT = some v → v < 40) → timerSync s = { s with dry := { s.dry with warm := none } })) ∧
    (running → ∃ frost trip, timerSync s = { s with dry := { s.dry with coilFrost := frost, trip := trip } } ∧
      (∀ v, s.qual .coilT = some v → v ≤ -10 → frost = started s.dry.coilFrost) ∧
      ((∀ v, s.qual .coilT = some v → -10 < v) → frost = none) ∧
      (∀ v, s.qual .compI = some v → 600 < v → trip = started s.dry.trip) ∧
      ((∀ v, s.qual .compI = some v → v ≤ 600) → trip = none)) ∧
    (¬ melting → ¬ running → timerSync s = s)) ∧
  (∀ s : State,
    let c := s.filt.check
    let atSpeed := s.fan.state = .running ∧ s.fan.atLevel = true
    let ready := atSpeed ∧ (s.chan .filterDp).state = .qualified
    let faulted := (s.chan .filterDp).state = .faulted
    let back := s.withCheck { c with state := .waiting, samples := 0, sum := 0 }
    let out := ∃ n, c.timer = some n ∧ 60 ≤ n
    (c.state = .waiting ∨ c.state = .sampling → faulted → checkSync s = s.checkEnded .failedNoReading) ∧
    (c.state = .waiting → ready → checkSync s = s.withCheck { c with state := .sampling, samples := 0, sum := 0 }) ∧
    (c.state = .sampling → ¬ ready → ¬ faulted → ¬ out → checkSync s = back) ∧
    (c.state = .sampling → ¬ ready → ¬ faulted → out →
      (atSpeed → checkSync s = back.checkEnded .failedNoReading) ∧ (¬ atSpeed → checkSync s = back.checkEnded .failedNoLevel)) ∧
    (c.state = .idle ∨ c.state = .due ∨ (c.state = .waiting ∧ ¬ ready ∧ ¬ faulted) ∨ (c.state = .sampling ∧ ready) → checkSync s = s)) ∧
  ∀ (v : Int) (s : State),
    let c := s.filt.check
    let p := s.setup.pressureSlot
    let mean := roundDiv (c.sum + v) 8
    let r := { s.slot p with
      latest := some mean, baseline := if (s.slot p).baseline = none then some mean else (s.slot p).baseline }
    (c.samples < 7 → countSample v s = s.withCheck { c with samples := c.samples + 1, sum := c.sum + v }) ∧
    (7 ≤ c.samples →
      countSample v s = ((s.withSlot p (r.evaluate true)).withCheck { c with runCount := 0 }).checkEnded .done)) ∧
  (∀ s : State,
    let cycling := s.dry.level = .normal ∧ (s.dry.phase = .starting ∨ s.dry.phase = .running)
    (let blocked := s.arb.filter.active = true ∧
      (s.arb.service.active = true ∨ s.arb.dry.exact = true ∨ s.water.cover.filtered = true)
     let busy := s.filt.check.state = .waiting ∨ s.filt.check.state = .sampling
     (¬ blocked → abortFilter s = s) ∧ (blocked → busy → abortFilter s = s.checkEnded .preempted) ∧
     (blocked → ¬ busy → abortFilter s = { s with arb := { s.arb with filter := { s.arb.filter with active := false } } })) ∧
    (let drops := s.comp.on = true ∧ s.fan.state ≠ .running
     (¬ drops → interlock s = s) ∧
     (drops → cycling → interlock s = (s.compStopped .interlock { s.dry with phase := .lockout }).dryReleased) ∧
     (drops → ¬ cycling → interlock s = { s with comp := { request := false, on := false } })) ∧
    (let short : Bool := s.comp.on && decide (s.ceiling < s.setup.dryFloor)
     let u := publish { s with arb := { s.arb with airflowShort := short } }
     (short = s.arb.airflowShort → updateShort s = s) ∧
     (short ≠ s.arb.airflowShort →
      (short = true → cycling → updateShort s = u.compStopped .airflowShort { u.dry with phase := .stopping, runOn := some 0 }) ∧
      (short = false ∨ ¬ cycling → updateShort s = u))) ∧
    airflow s = updateShort (interlock (updateGrant (abortFilter s))) ∧
    settleRound s = publish (airflow (idleSync (startsSync (lossSync (timerSync (stopSync (demandSync (checkSync (airAndHolds
      (publish (roomSync (drainSync (tankSync (supplySync s))))))))))))))) ∧
  (∀ (id : Nat) (edge : Edge) (cause : Option ResetCause) (l : List EventEntry),
    ((∀ x ∈ l, ¬ (x.id = id ∧ x.edge = edge)) →
      latchIn id edge cause l = l ++ [{ id := id, edge := edge, count := 1, cause := cause }]) ∧
    ∀ a e b, l = a ++ e :: b → e.id = id → e.edge = edge → (∀ x ∈ a, ¬ (x.id = id ∧ x.edge = edge)) →
      latchIn id edge cause l = a ++ { e with count := min 15 (e.count + 1) } :: b) ∧
  (∀ (id : Nat) (s : State),
    (s.ev.onceEn[id - 21]? = some true →
      oneShot id s = { s with ev := { s.ev with list := latchIn id .once none s.ev.list } }) ∧
    (s.ev.onceEn[id - 21]? ≠ some true → oneShot id s = s)) ∧
  ∀ s : State, s.ev.stored.length = 21 → s.ev.riseEn.length = 21 → s.ev.fallEn.length = 21 →
    let nth := fun (l : List Bool) (k : Nat) => l.getD k false
    publish s = { s with ev := { s.ev with
      stored := conditions s,
      list := (List.range 21).foldl (fun l k =>
        if nth (conditions s) k = true ∧ nth s.ev.stored k = false then
          if nth s.ev.riseEn k = true then latchIn k .rise none l else l
        else if nth (conditions s) k = false ∧ nth s.ev.stored k = true then
          if nth s.ev.fallEn k = true then latchIn k .fall none l else l
        else l) s.ev.list } }

/-- DRAIN_CLEAR and the pump's event rows, where each is due: the start by LEVEL or BLIND, the three tests, and the end of the rest (R120,
R124, R126, R127). The NO_FLOW test is made at the tick alone: outside it the row changes nothing, whatever the levels. The note that a tick's
tests are still to be made is the model's own (log entry 51). -/
def Obligations.PumpAndDrainEventsWhenDue : Prop :=
  ∀ s : State, s.rst.inReset = false →
    (∀ n, s.water.drainBlocked = true → s.water.drainClear = some n → 60 ≤ n →
      exec .drainClear s = .next (s.after { s with water := { s.water with drainBlocked := false, drainClear := none } })) ∧
    (s.pumpMayStart →
      (∀ v, s.qual .tankLvl = some v → 600 ≤ v → exec .pumpRunStart s = .next (s.after (s.pumpStarted .level))) ∧
      ((∀ v, s.qual .tankLvl = some v → v < 600) → s.water.float.filtered = true →
        exec .pumpRunStart s = .next (s.after (s.pumpStarted .blind)))) ∧
    (s.water.pump.state = .running →
      (∀ a b, s.time.tested = false → s.water.pump.elapsed = 30 → s.water.pump.startLevel = some a → s.water.pump.latestLevel = some b → a - 50 < b →
        exec .pumpNoFlowTest s = .next (s.after (s.pumpEnded .noFlow))) ∧
      (s.time.tested = true → exec .pumpNoFlowTest s = .next s) ∧
      (s.water.pump.elapsed = 45 → s.water.pump.startLevel = none →
        exec .pumpBlindDone s = .next (s.after (s.pumpEnded .blindDone))) ∧
      (s.water.pump.elapsed = 90 → s.water.pump.startLevel ≠ none →
        exec .pumpTimeout s = .next (s.after (s.pumpEnded .timeout)))) ∧
    (∀ n, s.water.pump.state = .resting → s.water.pump.rest = some n → 20 ≤ n →
      exec .pumpRestEnd s = .next (s.after { s with water := { s.water with pump := { s.water.pump with state := .idle, rest := none } } }))

/-- PUMP_RUN, row by row: a refusal leaves the pump run record as it was; else a HOST run starts, after which no trigger starts another, and
the reply carries the record as it stands after the start (R128). -/
def Obligations.PumpRunStartsAHostRun : Prop :=
  ∀ s : State, s.listening →
    let h := clearSilence s
    let t := h.after (h.pumpStarted .host)
    exec .pumpRun s = .next (
      if h.link.part ≠ .active then h.declined .pumpRun .wrongState 0
      else if h.setup.optDrain ≠ .pump then h.declined .pumpRun .notFitted 0
      else if h.water.fault = true then h.declined .pumpRun .faultLatched 0
      else if h.water.pump.state ≠ .idle then h.declined .pumpRun .busy 0
      else if h.water.tankIn.filtered = false then h.declined .pumpRun .wrongState 1
      else if h.supplyLow = true then h.declined .pumpRun .wrongState 2
      else t.replied .pumpRun t.water.pump.bytes) ∧
    (∀ reason detail, (h.declined .pumpRun reason detail).water = h.water) ∧ ¬ (h.pumpStarted .host).pumpMayStart

/-- PUMP_CANCEL, row by row: a run in RUNNING, of any kind, ends CANCELLED; in IDLE and RESTING nothing changes, and the reply carries the
record as it stands after the request. A cancelled run does not stop the next automatic start: where the tank is still at or above 60.0 %
when the rest ends, a LEVEL run starts (R129). -/
def Obligations.PumpCancelEndsARun : Prop :=
  (∀ s : State, s.listening →
    let h := clearSilence s
    let t := h.after (if h.water.pump.state = .running then h.pumpEnded .cancelled else h)
    exec .pumpCancel s = .next (
      if h.link.part ≠ .active then h.declined .pumpCancel .wrongState 0
      else if h.setup.optDrain ≠ .pump then h.declined .pumpCancel .notFitted 0
      else t.replied .pumpCancel t.water.pump.bytes)) ∧
  ∀ (s t : State) (n : Nat) (v : Int), s.rst.inReset = false → s.water.pump.state = .resting → s.water.pump.rest = some n → 20 ≤ n →
    s.link.part = .active → s.setup.optDrain = .pump → s.water.tankIn.filtered = true → s.water.fault = false → s.qual .tankLvl = some v →
    600 ≤ v → exec .pumpRestEnd s = .next t → t.supplyLow = false →
    t.water.pump.state = .running ∧ t.water.pump.kind = some .level

/-! Filter Accounts -/

/-- FILTER_FIT: the refusals in their order, else the slot's record is replaced, its wear evaluated, and for the pressure slot the check
follows; the reply is built after what follows (R138, R139). That a restored baseline is a signed number, that a negative one is accepted
and that 0x8000 stands for absent is the model's deduction (log entry 18). -/
def Obligations.FilterFitReplacesTheRecord : Prop :=
  ∀ (p : FitParams) (s : State), s.listening →
    let h := clearSilence s
    let no := h.declined (.filterFit p)
    let n : Slot := if p.slot.toNat = 0 then .pre else if p.slot.toNat = 1 then .fine else .carbon
    let kind : RatingKind := if p.ratingKind.toNat = 0 then .load else if p.ratingKind.toNat = 1 then .volume else .hours
    let most : Nat := match kind with | .load => 100000 | .volume => 1000000 | .hours => 20000
    let given : Nat × Nat × Nat := match p.restore with
      | .absent => (0, 0, 0)
      | .accounts l v t => (l.toNat, v.toNat, t.toNat)
      | .accountsAndBaseline l v t _ => (l.toNat, v.toNat, t.toNat)
    let baseline : Option Int := match p.restore with
      | .accountsAndBaseline _ _ _ b => if b = 32768#16 then none else some b.toInt
      | _ => none
    let fresh : SlotRec :=
      { state := .fitted, tag := p.tag, ratingKind := kind, rated := p.rated.toNat, capture := p.capture.toNat, load := given.1,
        volume := given.2.1, runSecs := given.2.2, fittedAt := h.time.uptime, baseline := baseline, latest := none,
        riseLimit := if p.riseLimit.toNat = 0 then 800 else p.riseLimit.toNat, wornReason := none, coverOpened := false, loadRem := 0,
        volumeRem := 0 }
    let used : Nat := match kind with | .load => given.1 | .volume => given.2.1 | .hours => given.2.2
    let life : Nat := match kind with | .load => p.rated.toNat * 1000 | .volume => p.rated.toNat * 100 | .hours => p.rated.toNat * 3600
    let reason : WornReason := match kind with | .load => .load | .volume => .volume | .hours => .hours
    let record : SlotRec :=
      if life ≤ used then { fresh with state := .worn, wornReason := some reason }
      else if 9 * life ≤ 10 * used then { fresh with state := .nearWorn }
      else fresh
    let c := h.filt.check
    let check : Check :=
      if n ≠ h.setup.pressureSlot then c
      else if baseline.isSome then { c with runCount := 0 }
      else if c.state = .idle then { c with runCount := 0, state := .due, dueCause := some .fit }
      else { c with runCount := 0, retry := none, dueCause := some .fit }
    let t := h.after ((h.withSlot n record).withCheck check)
    exec (.filterFit p) s = .next (
      if 12 < p.tag.length then no .badLength 0
      else if h.link.part ≠ .active then no .wrongState 0
      else if 2 < p.slot.toNat then no .badValue 0
      else if h.setup.optSlots.get n = false then no .notFitted 0
      else if 2 < p.ratingKind.toNat then no .badValue 1
      else if p.rated.toNat = 0 ∨ most < p.rated.toNat then no .badValue 2
      else if 100 < p.capture.toNat then no .badValue 3
      else if p.riseLimit.toNat ≠ 0 ∧ (p.riseLimit.toNat < 100 ∨ 3000 < p.riseLimit.toNat) then no .badValue 4
      else if ∃ b ∈ p.tag, b.toNat < 32 ∨ 126 < b.toNat then no .badValue 5
      else if ∃ b ∈ baseline, 6000 < b then no .badValue 6
      else if (h.slot n).coverOpened = false then no .coverNotOpened 0
      else if h.filt.check.state = .waiting ∨ h.filt.check.state = .sampling then no .busy 0
      else t.replied (.filterFit p) (slotBytes n (t.slot n)))

/-- FILTER_REMOVE and FILTER_CHECK with their refusals in order, and the check's event rows where each is due (R140, R142 to R147). That the
due cause becomes absent when a check ends REMOVED or a due one is removed is the model's choice (log entry 42), and so are the form of an
EMPTY record (log entry 19). FILTER_CHECK tests the start conditions at once, and its reply carries the record as it stands after that test
(R143, R144). -/
def Obligations.RemovalsAndChecksMoveTheCheck : Prop :=
  ∀ s : State, s.rst.inReset = false →
    let started := fun (u : State) => { u with
      arb := { u.arb with filter := { active := true, kind := .exactly, level := u.setup.refLevel, takenAt := u.time.uptime } },
      scan := { u.scan with claims := takeClaimIn .filter .filterDp u.scan.claims },
      filt := { u.filt with check := { u.filt.check with state := .waiting, timer := some 0, samples := 0, sum := 0 } } }
    (∀ slot : Byte, s.link.answer = none →
      let h := clearSilence s
      let no := h.declined (.filterRemove slot)
      let n : Slot := if slot.toNat = 0 then .pre else if slot.toNat = 1 then .fine else .carbon
      let v := h.withSlot n (SlotRec.emptyWith (h.slot n).coverOpened)
      let c : Check := { h.filt.check with runCount := 0 }
      let u : State :=
        if (h.slot n).state = .empty then h
        else if n ≠ h.setup.pressureSlot then v
        else if c.state = .waiting ∨ c.state = .sampling then (v.withCheck c).checkEnded .removed
        else if c.state = .due then v.withCheck { c with state := .idle, dueCause := none, retry := none, requested := false }
        else v.withCheck c
      let t := h.after u
      exec (.filterRemove slot) s = .next (
        if h.link.part ≠ .active then no .wrongState 0
        else if 2 < slot.toNat then no .badValue 0
        else if h.setup.optSlots.get n = false then no .notFitted 0
        else t.replied (.filterRemove slot) (slotBytes n (t.slot n)))) ∧
    (s.link.answer = none →
      let h := clearSilence s
      let no := h.declined .filterCheck
      let c := h.filt.check
      let due := h.withCheck (
        if c.state = .idle then { c with state := .due, dueCause := some .host, requested := true }
        else { c with requested := true, retry := none })
      let tested := if due.checkMayStart then started due else due
      exec .filterCheck s = .next (
        if h.link.part ≠ .active then no .wrongState 0
        else if (h.slot h.setup.pressureSlot).state = .empty then no .notFitted 0
        else if c.state = .waiting ∨ c.state = .sampling then no .busy 0
        else (h.after tested).replied .filterCheck tested.filt.check.bytes)) ∧
    (s.checkMayStart → exec .checkStart s = .next (s.after (started s))) ∧
    (∀ n, s.filt.check.state = .due → s.filt.check.retry = some n → 600 ≤ n →
      exec .checkRetryEnd s = .next (s.after (s.withCheck { s.filt.check with retry := none }))) ∧
    (∀ n, s.filt.check.state = .waiting → s.filt.check.timer = some n → 60 ≤ n →
      (s.fan.state ≠ .running ∨ s.fan.atLevel = false → exec .checkTimeout s = .next (s.after (s.checkEnded .failedNoLevel))) ∧
      (s.fan.state = .running → s.fan.atLevel = true → (s.chan .filterDp).state ≠ .qualified →
        exec .checkTimeout s = .next (s.after (s.checkEnded .failedNoReading))))

/-- A second of air is charged without losing any dust or volume to rounding, slot behind slot, and only in ACTIVE (R135, R136); wear rises
to the highest state a test reaches and never falls (R133). -/
def Obligations.AirIsChargedExactlyAndWearRises : Prop :=
  (∀ (flow conc : Nat) (r : SlotRec),
    let t := r.charge flow conc
    t.loadRem < 3600000000 ∧ t.volumeRem < 36 ∧ t.load ≤ 4294967295 ∧ t.volume ≤ 4294967295 ∧
    t.runSecs = min 4294967295 (r.runSecs + 1) ∧
    (t.load < 4294967295 → t.load * 3600000000 + t.loadRem = r.load * 3600000000 + r.loadRem + flow * conc * r.capture) ∧
    (t.volume < 4294967295 → t.volume * 36 + t.volumeRem = r.volume * 36 + r.volumeRem + flow) ∧
    (r.load ≤ 4294967295 → r.load ≤ t.load) ∧ (r.volume ≤ 4294967295 → r.volume ≤ t.volume)) ∧
  (∀ (flow : Nat) (s : State),
    (s.link.part = .setup → chargeAir flow s = s) ∧
    (s.link.part = .active →
      let c0 := 10000 * (match s.qual .pm with | some v => v.toNat | none => s.setup.defaultPm)
      let c1 := if s.filt.slots.pre.state = .empty then c0 else c0 * (100 - s.filt.slots.pre.capture) / 100
      let c2 := if s.filt.slots.fine.state = .empty then c1 else c1 * (100 - s.filt.slots.fine.capture) / 100
      let one := fun (n : Slot) (c : Nat) =>
        ((s.slot n).state = .empty → (chargeAir flow s).slot n = s.slot n) ∧
        ((s.slot n).state ≠ .empty →
          (chargeAir flow s).slot n = ((s.slot n).charge flow c).evaluate (decide (s.setup.pressureSlot = n)))
      one .pre c0 ∧ one .fine c1 ∧ one .carbon c2)) ∧
  ∀ (isPressure : Bool) (r : SlotRec),
    let t := r.evaluate isPressure
    let rises := fun (k : Nat) => isPressure = true ∧ ∃ b l, r.baseline = some b ∧ r.latest = some l ∧ ((k * r.riseLimit : Nat) : Int) ≤ l - b
    let full := r.ratedUnits ≤ r.used
    t = { r with state := t.state, wornReason := t.wornReason } ∧ r.state.rank ≤ t.state.rank ∧
    (r.state = .empty → t = r) ∧
    (r.state ≠ .empty →
      (rises 2 → t.state = .clogged) ∧ (full ∨ rises 1 → 3 ≤ t.state.rank) ∧ (9 * r.ratedUnits ≤ 10 * r.used → 2 ≤ t.state.rank) ∧
      (t.state.rank = r.state.rank → t = r) ∧
      (r.state.rank < t.state.rank →
        (t.state = .clogged → rises 2 ∧ t.wornReason = some .pressure) ∧
        (t.state = .worn → (full ∨ rises 1) ∧ t.wornReason = some (if full then r.ratingKind.reason else .pressure)) ∧
        (t.state = .nearWorn → 9 * r.ratedUnits ≤ 10 * r.used ∧ t.wornReason = r.wornReason)))

/-! Resets and time -/

/-- The reset sources: each begins a reset with its own cause, with every output off and ATTN released, or is only noted where the part is
in reset already; in CUT the release timer of the comparator runs while the bus is at 19.0 V or above, from the core supply's coming up or
from the rise (R152, R153, R177). That POWER_ON asserts a power-on source beside the comparator in CUT is the model's choice (log entry
21), and so is its begin of a new reset, with its own cause, in a part that is in reset already (log entry 36). -/
def Obligations.SourcesBeginAReset : Prop :=
  ∀ s : State,
    let down := fun (i : Instr) (rst : Resets) => ∃ t, exec i s = .next t ∧ t.rst = { rst with inReset := true } ∧ t.comp.on = false ∧
      t.water.pumpOn = false ∧ t.fanPwm = false ∧ t.clean.pmPwr = false ∧ t.attn = false ∧ t.scan.converting = none
    let noted := fun (i : Instr) (rst : Resets) => exec i s = .next { s with rst := rst }
    down .powerOn { s.rst with cut := true, releasing := s.rst.busHigh, srcPower := true, srcLink := false, cause := .powerOn } ∧
    (s.rst.inReset = false → down .resetNAssert { s.rst with srcPin := true, cause := .pin }) ∧
    (s.rst.inReset = true → noted .resetNAssert { s.rst with srcPin := true }) ∧
    (let low : Resets := { s.rst with busHigh := false, cut := true, releasing := false }
     (s.rst.cut = true ∨ s.rst.inReset = true → noted .supplyCut low) ∧
     (s.rst.cut = false → s.rst.inReset = false → down .supplyCut { low with cause := .supply })) ∧
    (∀ rising, s.rst.cut = true → noted (.supplySenseCrossing rising) { s.rst with busHigh := rising, releasing := rising }) ∧
    (∀ rising, s.rst.cut = false → noted (.supplySenseCrossing rising) { s.rst with busHigh := rising, releasing := false }) ∧
    (∀ a, s.rst.inReset = false → s.link.answer = some a → a.after = .fullReset →
      down .linkFullReset { s.rst with srcLink := true, cause := .linkFull })

/-- CUT_RELEASE and RESET_RELEASE end a source; when none is left the part leaves reset with its full-reset values for the pins as they
stand, the list holds RESET with its cause alone, the conditions start from the owners' values without an edge, and drying is on hold for
the causes that stand (R112, R116, R153, R159, R164). The full-reset values are those of `State.fullReset`. The model's choices: a CUT_RELEASE
that is not due leaves the state as it is (log entry 9), and RESET_RELEASE's operand names the source that ends (log entry 21). -/
def Obligations.LastReleaseLeavesReset : Prop :=
  ∀ s : State, s.rst.inReset = true →
    let left := fun (i : Instr) (rst : Resets) => ∃ t, exec i s = .next t ∧
      t.kept = { (State.fullReset rst s.water.tankIn.pin s.water.float.pin s.water.cover.pin).kept with
        pending := s.pending, rst := { rst with inReset := false } } ∧
      t.ev.list = [{ id := 21, edge := .once, count := 1, cause := some rst.cause }] ∧ t.ev.stored = conditions t ∧ t.attn = true ∧
      t.comp.on = false ∧ t.water.pumpOn = false ∧ t.fan.state = .off ∧ t.arb.granted = 0 ∧ t.dry.phase = .lockout ∧ t.dry.offTime = 0 ∧
      (∀ c, c ∈ t.dry.holdSet ↔ t.stands c = true) ∧
      (s.water.tankIn.pin = true → s.water.float.pin = false → s.water.cover.pin = false →
        t = { State.reset with
          pending := s.pending, free := s.free, rst := { rst with inReset := false },
          ev := { State.reset.ev with list := t.ev.list, lastCause := rst.cause } })
    let ends := fun (i : Instr) (rst : Resets) =>
      (rst.cut = false ∧ rst.srcPower = false ∧ rst.srcPin = false ∧ rst.srcLink = false → left i rst) ∧
      (rst.cut = true ∨ rst.srcPower = true ∨ rst.srcPin = true ∨ rst.srcLink = true → exec i s = .next { s with rst := rst })
    (s.rst.cut = true → s.rst.releasing = true → ends .cutRelease { s.rst with cut := false, releasing := false }) ∧
    (¬ (s.rst.cut = true ∧ s.rst.releasing = true) → exec .cutRelease s = .next s) ∧
    ends (.resetRelease .powerOn) { s.rst with srcPower := false } ∧
    ends (.resetRelease .pin) { s.rst with srcPin := false } ∧
    ends (.resetRelease .linkFull) { s.rst with srcLink := false }

/-- SOFT_RESET: each block's soft-reset values, the one entry RESET LINK_SOFT, the conditions taken without an edge, and then the held
request is taken (R16, R36, R48, R59, R74, R95, R113, R130, R148, R157, R161, R165, R173, R177, R182). A hold for the causes that stand has an
IDLE context of the lockout that begins; the tank state is evaluated with TANK_LVL not QUALIFIED; the check is due where the pressure slot
has no baseline. The moment at which the held request is taken is the model's deduction (log entry 20), and so is the tank level noted at an
off time, absent here (log entry 16). That the reset ends with the pump IDLE, PUMP_ON off and no WATER claim, also where a start trigger of R124
holds, is the model's deduction (log entry 23), and so is that it ends with the check still DUE, the FILTER row at its reset value and no
claim, also where the start conditions of R144 hold (R16, R48, R148; log entry 45). The model's choices: the slot of an abandoned conversion
stays counted (log entry 12), the held level is kept also where TANK_LVL goes OFF (log entry 40), and the due cause of an abandoned check is
made absent (log entry 42). -/
def Obligations.SoftResetKeepsWhatItsRulesKeep : Prop :=
  ∀ (s : State) (a : Answer), s.rst.inReset = false → s.link.answer = some a → a.after = .softReset →
    let now := s.time.uptime
    let pumping : Bool := decide (s.water.pump.state = .running)
    let busy : Bool := decide (s.filt.check.state = .waiting ∨ s.filt.check.state = .sampling)
    let unset : Bool := decide ((s.slot s.setup.pressureSlot).state ≠ .empty ∧ (s.slot s.setup.pressureSlot).baseline = none)
    ∃ t : State, exec .softReset s = .next (match s.link.held with
        | none => t
        | some r => takeRequest r t) ∧
      (t.ev.list = [{ id := 21, edge := .once, count := 1, cause := some .linkSoft }] ∧ t.ev.stored = conditions t ∧
      t.comp = { request := false, on := false } ∧ t.water.pumpOn = false ∧
      (∀ c, t.chan c = { s.chan c with
        state := if c = .pm then .off else if c ∈ s.scan.plan then .qualifying else .off, window := [], run := 0, value := none,
        faultCount := 0, last := (s.chan c).last.map fun l => { l with accepted := false }, subst := false, warmup := none }) ∧
      t.kept = { s.kept with
        seq := buildSequence s.scan.plan [] false, members := s.scan.plan, pos := 0, converting := none, chans := t.chans,
        rows := (Row.atReset, Row.atReset, Row.atReset), boostRemaining := none, hostCeiling := 12, stalls := 0, fanFault := false,
        runTime := 0, clean := Cleaning.atReset, dryMode := (.off, s.dry.setpoint), failures := (0, s.dry.lastFailure, false),
        weak := (0, none, false),
        water := (s.water.held,
          if pumping then min 4294967295 (s.water.total + s.movedBy.getD 0) else s.water.total,
          s.water.emptyings, s.water.unknownEmptyings,
          if pumping = true ∧ s.movedBy = none then min 65535 (s.water.unknownRuns + 1) else s.water.unknownRuns),
        pumpFault := (0, false), lastCause := .linkSoft, serv := Service.atReset,
        link := { s.link with silence := 0, silent := false, answer := none, held := none } }) ∧
      t.scan.claims = [] ∧ t.arb = Arbiter.atReset ∧ t.fan = Fan.atReset ∧
      t.supplyLow = (if .supply ∈ s.scan.plan then s.supplyLow else true) ∧
      (∀ x, x ∈ t.dry.holdSet ↔ t.stands x = true) ∧
      t.dry = { s.dry with
        mode := .off, demand := false, disabled := false, phase := .lockout, offTime := now, offTank := none, onTime := none,
        startWait := none, retryWait := none, trip := none, runOn := none, failures := 0,
        lastStop := if s.comp.on then some { reason := .reset, time := now } else s.dry.lastStop, coilFrost := none, idleTimer := none,
        sampleTimer := none, weak := 0, riseRef := none, dryWeak := false,
        level := if t.dry.holdSet = [] then .normal else .hold, slot1 := none,
        slot2 := if t.dry.holdSet = [] then none else some
          { kind := .idle, phase := none, offTime := now, runSince := s.dry.runSince, cycleStart := now, cycleTank := none, step := none,
            melt := none, endAfter := false },
        holdSet := t.dry.holdSet, deferred := [], roomCold := false, step := none, stepTimer := none, melt := none, warm := none } ∧
      t.water.pump = { s.water.pump with
        state := .idle, rest := none, result := if pumping then some .abortedReset else s.water.pump.result,
        endedAt := if pumping then some now else s.water.pump.endedAt, moved := if pumping then s.movedBy else s.water.pump.moved } ∧
      t.water.tank = (if s.water.tankIn.filtered = false then .out else if s.setup.optDrain = .gravity then .normal
        else if s.water.float.filtered = true then .full else if s.water.tank = .full ∧ s.setup.optDrain = .bucket then .full else .normal) ∧
      (drainSync s = s → t.water.drainBlocked = s.water.drainBlocked ∧ t.water.drainClear = s.water.drainClear) ∧
      t.filt.check = { s.filt.check with
        state := if unset then .due else .idle, dueCause := if unset then some .fit else none, requested := false, retry := none,
        timer := none, samples := 0, sum := 0, lastResult := if busy then some .abortedReset else s.filt.check.lastResult,
        lastEnded := if busy then some now else s.filt.check.lastEnded }

/-- JOB_TICK behind the 64th slot of a second (R149): the counts of every block, and then what the blocks make of the tick, first the Fan Drive
and the Drying Controller with all that follows, then the others, which is the model's choice of an order (log entry 10), and so is that a
stall's dropout (R91) comes behind the Drying Controller's own test at that tick (log entry 55). The counts are
uptime and the trim taken (R150, R151), the boost (R47), the fan's timers (R50, R51, R54), the cleaning timers (R67, R69, R71), the drying
timers and the weak count (R82, R83, R86, R87, R89, R92 to R94, R100, R101), the warm-up (R28), the drain clear timer and the pump's elapsed
and rest (R120, R126), the check timer and its retry wait (R142, R145), the service run (R182) and the silence timer (R173). The Fan Drive
measures, stalls or retries, lets the stalls expire at 300 s of running, but not at a stall (log entry 41), and hands over the second of
air (R51 to R54, R57). What a tick adds to the pending list stands in order of event id; that the tick is one event for this order is the
model's choice (log entry 28), and so is the note that its tests have been made (log entry 51). Last, the results that no consequence
reaches. -/
def Obligations.TickCountsASecond : Prop :=
  (∀ f : Fan,
    (f.periods = 0 ∨ f.periodSum = 0 → f.measure = f) ∧
    (f.periods ≠ 0 → f.periodSum ≠ 0 →
      let v := meanRpm f.periods f.periodSum
      let n := min 2 (f.settleCount + 1)
      f.measure = if inBand f.target v = true then { f with measured := some v, settleCount := n, atLevel := f.atLevel || decide (n = 2) }
        else { f with measured := some v, settleCount := 0 })) ∧
  (∀ u : State,
    let f := { (if u.fan.state = .running then u.fan.measure else u.fan) with edge := false, periods := 0, periodSum := 0 }
    let stalls := (f.state = .spinningUp ∧ 3 ≤ f.timer) ∨ (f.state = .running ∧ 2 ≤ f.timer)
    let retries := f.state = .stalled ∧ 10 ≤ f.timer
    let kept := { u with fan := if f.state = .running ∧ f.runTime = 300 then { f with stalls := 0 } else f }
    (stalls → fanTick u = { u with fan := f.stall }) ∧ (retries → fanTick u = { u with fan := f.retry u.arb.granted }) ∧
    (¬ stalls → ¬ retries →
      fanTick u = if f.state = .running then chargeAir (u.levelEntry u.arb.granted).flow kept else kept)) ∧
  ∀ s : State, s.rst.inReset = false → s.scan.converting = none → 64 ≤ s.time.slot →
    let counting : Bool := decide (s.dry.level = .normal ∧ s.dry.phase = .running)
    let watched : Bool := counting && decide (s.dry.mode ≠ .off ∧ s.setup.optDrain ≠ .gravity)
    let up := Option.map (· + 1)
    let counted : State := { s with
      time := { uptime := if s.time.uptime = 4294967295 then 0 else s.time.uptime + 1, trim := s.setup.trim, slot := 0,
                tested := false },
      arb := { s.arb with boostRemaining := s.arb.boostRemaining.map (· - 1) },
      fan :=
        if s.fan.state = .spinningUp ∨ s.fan.state = .stalled then { s.fan with timer := s.fan.timer + 1 }
        else if s.fan.state = .running then
          { s.fan with timer := if s.fan.edge then 0 else s.fan.timer + 1, runTime := s.fan.runTime + 1 }
        else s.fan,
      dry := { s.dry with
        onTime := s.dry.onTime.map fun n => min 65534 (n + 1), startWait := up s.dry.startWait, retryWait := up s.dry.retryWait,
        trip := up s.dry.trip, runOn := up s.dry.runOn, coilFrost := up s.dry.coilFrost, idleTimer := up s.dry.idleTimer,
        sampleTimer := up s.dry.sampleTimer, stepTimer := up s.dry.stepTimer, warm := up s.dry.warm, melt := s.dry.melt.map (· - 1),
        runSince := if counting then min 4294967295 (s.dry.runSince + 1) else s.dry.runSince,
        totalRun := if counting then min 4294967295 (s.dry.totalRun + 1) else s.dry.totalRun,
        weak := if watched then min 4294967295 (s.dry.weak + 1) else s.dry.weak },
      clean := { s.clean with
        stepDown := if (s.chan .pm).state = .qualified then up s.clean.stepDown else s.clean.stepDown,
        unqualified := if (s.chan .pm).state = .qualifying then up s.clean.unqualified else s.clean.unqualified },
      chans := s.chans.set .pm { s.chan .pm with warmup := (s.chan .pm).warmup.map (· - 1) },
      water := { s.water with
        drainClear := up s.water.drainClear,
        pump := { s.water.pump with
          elapsed := if s.water.pump.state = .running then s.water.pump.elapsed + 1 else s.water.pump.elapsed,
          rest := up s.water.pump.rest } },
      filt := { s.filt with check := { s.filt.check with retry := up s.filt.check.retry, timer := up s.filt.check.timer } },
      serv := { s.serv with run := s.serv.run.map fun r => { r with remaining := r.remaining.map (· - 1) } },
      link := { s.link with
        silence := if 0 < s.setup.linkSilence ∧ s.link.silent = false then s.link.silence + 1 else s.link.silence } }
    let early := s.after (dryTick (fanTick counted))
    exec .jobTick s = .next { inIdOrder s (early.after (tickLate early)) with time := { counted.time with tested := true } } ∧
    ∃ t, exec .jobTick s = .next t ∧ t.time = { counted.time with tested := true } ∧ t.dry.weak = counted.dry.weak ∧ t.dry.riseRef = s.dry.riseRef ∧
    (counted.stepDownDue = false → counted.carriedDue = false → counted.fallbackDue = false → t.clean = counted.clean) ∧
    t.setup = s.setup ∧ t.rst = s.rst ∧ t.serv.subst = s.serv.subst ∧ t.kept.inputs = s.kept.inputs ∧ t.kept.dryMode = s.kept.dryMode ∧
    t.kept.enables = s.kept.enables ∧ t.arb.hostCeiling = s.arb.hostCeiling ∧
    (t.scan.plan, t.scan.seq, t.scan.members, t.scan.pos, t.scan.converting) =
      (s.scan.plan, s.scan.seq, s.scan.members, s.scan.pos, s.scan.converting) ∧
    t.link = { counted.link with silent :=
      s.link.silent || (decide (0 < s.setup.linkSilence) && decide (s.setup.linkSilence ≤ s.link.silence + 1)) } ∧
    (s.arb.boostRemaining = none → t.arb.boostRemaining = none ∧ t.arb.boost = s.arb.boost) ∧
    (∀ n, s.arb.boostRemaining = some n →
      (n ≤ 1 → t.arb.boostRemaining = none ∧ t.arb.boost = { s.arb.boost with active := false }) ∧
      (1 < n → t.arb.boostRemaining = some (n - 1) ∧ t.arb.boost = s.arb.boost)) ∧
    (∀ c, c ≠ .pm → t.chan c = s.chan c) ∧
    ((s.chan .pm).warmup = none → t.chan .pm = s.chan .pm) ∧
    (∀ n, (s.chan .pm).warmup = some n →
      ((s.chan .pm).state = .warming → n ≤ 1 →
        t.chan .pm = { s.chan .pm with warmup := some 0, state := .qualifying, window := [], run := 0, value := none }) ∧
      ((s.chan .pm).state ≠ .warming ∨ 1 < n → t.chan .pm = { s.chan .pm with warmup := some (n - 1) })) ∧
    (∀ r n, s.serv.run = some r → r.kind = .fan → r.remaining = some n →
      t.serv.run = if n ≤ 1 then none else some { r with remaining := some (n - 1) }) ∧
    (∀ r n, s.serv.run = some r → r.kind = .compressor → r.remaining = some n → n ≤ 1 → t.serv.run = none) ∧
    (let stalls := (s.fan.state = .spinningUp ∧ 2 ≤ s.fan.timer) ∨ (s.fan.state = .running ∧ s.fan.edge = false ∧ 1 ≤ s.fan.timer)
     let charged := s.fan.state = .running ∧ s.link.part = .active ∧ ¬ stalls
     (stalls → t.fan.stalls = min 3 (s.fan.stalls + 1) ∧ t.fan.fault = (s.fan.fault || decide (2 ≤ s.fan.stalls))) ∧
     (¬ stalls → t.fan.fault = s.fan.fault ∧
       t.fan.stalls = if s.fan.state = .running ∧ s.fan.runTime = 299 then 0 else s.fan.stalls) ∧
     (charged → t.filt.slots = (chargeAir (s.levelEntry s.arb.granted).flow s).filt.slots) ∧
     (¬ charged → t.filt.slots = s.filt.slots)) ∧
    t.dry.totalRun = counted.dry.totalRun

/-! The Event Latch -/

/-- EVENTS_READ: the reply takes the first entries, up to 24, in list order; those are removed, the more flag says whether any are left, and
ATTN follows (R162). -/
def Obligations.ReadTakesTheFirstEntries : Prop :=
  ∀ s : State, s.listening →
    let h := clearSilence s
    let entry := fun (e : EventEntry) =>
      field 1 e.id ++ [match e.edge with | .rise => 0#8 | .fall => 1#8 | .once => 2#8] ++ field 1 e.count ++
        [match e.cause with | none => 255#8 | some .powerOn => 0#8 | some .pin => 1#8 | some .supply => 2#8 | some .linkFull => 3#8
                            | some .linkSoft => 4#8]
    let rest := h.ev.list.drop 24
    let t : State := { h with ev := { h.ev with list := rest } }
    exec .eventsRead s = .next (t.replied .eventsRead
      ([byteOf (min 24 h.ev.list.length), if rest = [] then 0#8 else 1#8] ++ (h.ev.list.take 24).flatMap entry)) ∧
    h.ev.list = h.ev.list.take 24 ++ rest ∧
    t.attn = (decide (h.rst.inReset = false) && decide (rest ≠ []) && h.ev.attention)

/-- WATCH_SET: the refusals in their order, else every enable and the attention enable are replaced at once, with RESET enabled whatever its
mark, and the reply carries them as they stand (R159): in three, three and one bytes and then the attention enable, which is the model's
deduction (log entry 6). -/
def Obligations.WatchSetReplacesTheEnables : Prop :=
  ∀ (rise fall : BitVec 24) (once attention : Byte) (s : State), s.listening →
    let h := clearSilence s
    let r := Request.watchSet rise fall once attention
    let t : State := { h with ev := { h.ev with
      riseEn := (List.range 21).map fun k => rise.getLsbD k, fallEn := (List.range 21).map fun k => fall.getLsbD k,
      onceEn := true :: (List.range 5).map fun k => once.getLsbD (k + 1), attention := decide (attention = 1#8) } }
    exec (.watchSet rise fall once attention) s = .next (
      if rise >>> 21 ≠ 0#24 then h.declined r .badValue 0
      else if fall >>> 21 ≠ 0#24 then h.declined r .badValue 1
      else if once >>> 6 ≠ 0#8 then h.declined r .badValue 2
      else if 1 < attention.toNat then h.declined r .badValue 3
      else t.replied r (leBytes 3 rise.toNat ++ leBytes 3 fall.toNat ++ [once ||| 1#8, attention]))

/-! The Link Port -/

/-- Where a request goes: the silence ends first; it is taken, held, or dropped as OVERRUN by the two places; what is taken earns a reply of
its KIND plus 0x80 or of KIND 0x7F, and a refused request changes nothing (R169, R170, R173). -/
def Obligations.RequestsFindTheirPlace : Prop :=
  ∀ (i : Instr) (r : Request) (s : State), asked i = some r → s.rst.inReset = false →
    let h := clearSilence s
    h.link = { s.link with silence := 0, silent := false } ∧
    (s.link.silent = false → h = { s with link := { s.link with silence := 0 } }) ∧
    (s.link.silent = true → h = s.after { s with link := { s.link with silence := 0, silent := false } }) ∧
    (s.link.answer ≠ none → s.link.held = none → exec i s = .next { h with link := { h.link with held := some r } }) ∧
    (s.link.answer ≠ none → s.link.held ≠ none →
      exec i s = .next { h with link := { h.link with overrun := min 65535 (h.link.overrun + 1) } }) ∧
    (s.link.answer = none → ∃ t a, exec i s = .next t ∧ t.link.answer = some a ∧ a.request = r ∧ t.link.held = s.link.held ∧
      (a.reply.take 2 = [195#8, 127#8] ∧ t = h.answering r a.reply .nothing ∨ a.reply.take 2 = [195#8, kindOf r + 128#8]))

/-- The requests that only read: identity, a STATUS page, a channel record, a filter record and a setup item in force, with their refusals,
and the lengths of the layouts (R37, R141, R170, R176, R178, R179, R181). -/
def Obligations.ReadingRequestsChangeNothing : Prop :=
  (∀ s : State, s.listening →
    let h := clearSilence s
    exec .ident s =
      .next (h.replied .ident (leBytes 2 14961 ++ leBytes 2 460 ++ [1#8] ++ (List.range 8).map Config.serialByte)) ∧
    (∀ page : Byte, exec (.status page) s = .next (
      if 3 < page.toNat then h.declined (.status page) .badValue 0 else h.replied (.status page) (statusPage h page.toNat))) ∧
    (∀ channel : Byte,
      (7 < channel.toNat → exec (.channelGet channel) s = .next (h.declined (.channelGet channel) .badValue 0)) ∧
      ∀ c : Channel, c.num = channel.toNat →
        exec (.channelGet channel) s = .next (h.replied (.channelGet channel) (channelBytes c (h.chan c)))) ∧
    (∀ slot : Byte,
      (2 < slot.toNat → exec (.filterGet slot) s = .next (h.declined (.filterGet slot) .badValue 0)) ∧
      ∀ n : Slot, n.num = slot.toNat → exec (.filterGet slot) s = .next (h.replied (.filterGet slot) (slotBytes n (h.slot n)))) ∧
    ∀ item index : Byte,
      let id := item.toNat
      exec (.setupGet item index) s = .next (
        if ¬ ((1 ≤ id ∧ id ≤ 10) ∨ (16 ≤ id ∧ id ≤ 30)) then h.declined (.setupGet item index) .badValue 255
        else if (id = 17 ∨ id = 18) ∧ 8 ≤ index.toNat then h.declined (.setupGet item index) .badValue 0
        else if id = 6 ∧ 12 < index.toNat then h.declined (.setupGet item index) .badValue 0
        else h.replied (.setupGet item index) (item :: index :: itemValue id index.toNat h))) ∧
  (∀ s : State, (statusPage s 0).length = 87 ∧ (statusPage s 1).length = 62 ∧ (statusPage s 2).length = 117 ∧
    (statusPage s 3).length = 67) ∧
  (∀ (c : Channel) (k : Chan), (channelBytes c k).length = 32) ∧
  ∀ (n : Slot) (r : SlotRec), r.tag.length ≤ 12 → (slotBytes n r).length = 45

/-- SETUP_SET in the order of R176: the id, the length, the class, the item's own check, and then the effect, with the reply from the state
after it. -/
def Obligations.SetupSetChecksInOrder : Prop :=
  ∀ (item index : Byte) (value : List Byte) (s : State), s.listening →
    let h := clearSilence s
    let id := item.toNat
    let r := Request.setupSet item index value
    let t := h.after (applyItem id index.toNat value h)
    exec (.setupSet item index value) s = .next (
      if ¬ ((1 ≤ id ∧ id ≤ 10) ∨ (16 ≤ id ∧ id ≤ 30)) then h.declined r .badValue 255
      else if itemLength id value.length = false then h.declined r .badLength 0
      else if id ≤ 10 ∧ h.link.part = .active then h.declined r .wrongState 0
      else match itemFault id index.toNat value with
        | some d => h.declined r .badValue d
        | none => t.replied r (item :: index :: itemValue id index.toNat t))

/-- The items one by one: the lengths, the ranges with their details, and what an accepted value changes by itself (R5, R28 to R30, R38, R40,
R42, R64, R65, R67, R70, R72, R76, R98, R115, R131, R135, R142, R151, R156, R173, R176). Of a band list the detail is the number of the first
band at fault, from 1 (R64). OPT_DRAIN evaluates the tank state afresh (R115), and set to the value it has it changes nothing, the model's
deduction (log entry 33); BANDS, AUTO_FLOOR and CLEAN_FALLBACK reach AUTO and the CLEAN row (R70, R72, R73), and CHECK_INTERVAL may make a
check due (R142). -/
def Obligations.ItemsHaveTheirRangesAndEffects : Prop :=
  (∀ n : Nat, (∀ id ∈ [1, 2, 3, 5, 7, 8, 9, 10, 17, 18, 19, 21, 22, 24, 25], itemLength id n = decide (n = 1)) ∧
    (∀ id ∈ [4, 23, 26, 27, 28, 29], itemLength id n = decide (n = 2)) ∧ (∀ id ∈ [6, 30], itemLength id n = decide (n = 4)) ∧
    itemLength 16 n = decide (1 ≤ n ∧ n ≤ 8) ∧ itemLength 20 n = decide (n % 5 = 0 ∧ n ≤ 30)) ∧
  (∀ (index : Nat) (value : List Byte),
    let n := leValue value
    let only := fun (ok : Bool) => if ok then none else some 0
    (∀ id ∈ [1], itemFault id index value = only (decide (n ≤ 1))) ∧
    (∀ id ∈ [2, 10], itemFault id index value = only (decide (n ≤ 2))) ∧
    itemFault 3 index value = only (decide (n ≤ 7)) ∧
    itemFault 4 index value = only (decide (1000 ≤ n ∧ n ≤ 8000 ∧ n % 100 = 0)) ∧
    itemFault 5 index value = only (decide (n = 5 ∨ n = 20)) ∧
    (itemFault 6 index value =
      let speed := leValue (value.take 2)
      let flow := leValue (value.drop 2)
      if index = 0 ∨ 12 < index then some 0 else if speed < 200 ∨ 3000 < speed then some 1
      else if flow < 10 ∨ 1000 < flow then some 2 else none) ∧
    (∀ id ∈ [7, 8, 9, 22, 25], itemFault id index value = only (decide (1 ≤ n ∧ n ≤ 12))) ∧
    (itemFault 16 index value = none ↔ (value.map BitVec.toNat).Nodup ∧ ∀ b ∈ value, b.toNat ≤ 7) ∧
    (∀ k, itemFault 16 index value = some k ↔ ((value.map BitVec.toNat).take k).Nodup ∧ (∀ b ∈ value.take k, b.toNat ≤ 7) ∧
      ∃ b, value[k]? = some b ∧ (7 < b.toNat ∨ b ∈ value.take k)) ∧
    itemFault 17 index value =
      (if 8 ≤ index ∧ index ≠ 255 then some 0 else if n = 0 ∨ 8 < n then some 1 else none) ∧
    itemFault 18 index value =
      (if 8 ≤ index ∧ index ≠ 255 then some 0 else if n = 0 ∨ 254 < n then some 1 else none) ∧
    itemFault 19 index value = only (decide (5 ≤ n ∧ n ≤ 120)) ∧
    (itemFault 20 index value = none ↔ ∀ k b, (bandsOf value)[k]? = some b →
      1 ≤ b.enter ∧ b.enter ≤ 1000 ∧ b.leave ≤ 999 ∧ 1 ≤ b.level ∧ b.level ≤ 12 ∧ b.leave < b.enter ∧
      ∀ p, 0 < k → (bandsOf value)[k - 1]? = some p → p.enter < b.enter ∧ p.level ≤ b.level) ∧
    (let bad := fun (k : Nat) => ∃ b, (bandsOf value)[k]? = some b ∧
      ¬ (1 ≤ b.enter ∧ b.enter ≤ 1000 ∧ b.leave ≤ 999 ∧ 1 ≤ b.level ∧ b.level ≤ 12 ∧ b.leave < b.enter ∧
        ∀ p, 0 < k → (bandsOf value)[k - 1]? = some p → p.enter < b.enter ∧ p.level ≤ b.level)
     ∀ d, itemFault 20 index value = some d ↔ ∃ k, d = k + 1 ∧ bad k ∧ ∀ j, j < k → ¬ bad j) ∧
    (∀ id ∈ [21, 24], itemFault id index value = only (decide (n ≤ 12))) ∧
    itemFault 23 index value = only (decide (10 ≤ n ∧ n ≤ 900)) ∧
    itemFault 26 index value = only (decide (1950 ≤ n ∧ n ≤ 2250 ∧ n % 50 = 0)) ∧
    itemFault 27 index value = only (decide (n = 0 ∨ (10 ≤ n ∧ n ≤ 600))) ∧
    itemFault 28 index value = only (decide (-400 ≤ signedValue value ∧ signedValue value ≤ 400)) ∧
    itemFault 29 index value = only (decide (n ≤ 500)) ∧
    itemFault 30 index value = only (decide (3600 ≤ n ∧ n ≤ 604800))) ∧
  ∀ (index : Nat) (value : List Byte) (h : State),
    let n := leValue value
    let u := h.setup
    let now := fun (id : Nat) => applyItem id index value h
    now 1 = { h with setup := { u with optCompressor := decide (n = 1) } } ∧
    now 3 = { h with setup := { u with optSlots := { pre := n.testBit 0, fine := n.testBit 1, carbon := n.testBit 2 } } } ∧
    now 4 = { h with setup := { u with tankCapacity := n } } ∧ now 5 = { h with setup := { u with floatReject := n } } ∧
    now 6 = { h with setup := { u with
      levels := u.levels.set (index - 1) { speed := leValue (value.take 2), flow := leValue (value.drop 2) } } } ∧
    now 7 = { h with setup := { u with dryFloor := n } } ∧ now 8 = { h with setup := { u with defrostLevel := n } } ∧
    now 9 = { h with setup := { u with refLevel := n } } ∧
    now 10 = { h with setup := { u with pressureSlot := if n = 0 then .pre else if n = 2 then .carbon else .fine } } ∧
    now 16 = { h with scan := { h.scan with plan := value.filterMap fun b => Channel.ofNum b.toNat } } ∧
    (∀ c : Channel, (index = c.num ∨ 8 ≤ index) →
      let old := h.chan c
      (now 18).chan c = { old with faultLimit := n } ∧
      (old.state ≠ .qualifying → old.state ≠ .qualified → (now 17).chan c = { old with threshold := n }) ∧
      (old.state = .qualifying ∨ old.state = .qualified →
        (old.threshold = n → (now 17).chan c = old) ∧
        (old.threshold < n → (now 17).chan c = { old with threshold := n, state := .qualifying, value := none }) ∧
        (n < old.threshold →
          (old.state = .qualifying → n ≤ old.run → (now 17).chan c = { old with
            threshold := n, run := n, state := .qualified, value := some (roundDiv old.window.sum old.window.length) }) ∧
          (old.state = .qualified ∨ old.run < n → (now 17).chan c = { old with threshold := n, run := min old.run n })))) ∧
    (∀ c : Channel, index ≠ c.num → index < 8 → (now 17).chan c = h.chan c ∧ (now 18).chan c = h.chan c) ∧
    now 19 = { h with setup := { u with pmWarmup := n } } ∧
    now 23 = { h with setup := { u with stepDownHold := n } } ∧ now 24 = { h with setup := { u with lowCeiling := n } } ∧
    now 25 = { h with setup := { u with clogCap := n } } ∧ now 26 = { h with setup := { u with supplyWarn := n } } ∧
    now 27 = { h with setup := { u with linkSilence := n } } ∧ now 28 = { h with setup := { u with trim := signedValue value } } ∧
    now 29 = { h with setup := { u with defaultPm := n } } ∧
    (let d : Drain := if n = 0 then .bucket else if n = 1 then .pump else .gravity
     (d = u.optDrain → now 2 = h) ∧
     (d ≠ u.optDrain → now 2 = { h with
      setup := { u with optDrain := d },
      water := { h.water with
        held := if d = .gravity then none else h.water.held,
        tank := if h.water.tankIn.filtered = false then .out else if d = .gravity then .normal
          else if h.water.float.filtered = true then .full
          else match h.qual .tankLvl with
            | some v => if 950 ≤ v then .full else if 800 ≤ v then .nearFull else .normal
            | none => .normal } })) ∧
    (let auto := fun (b : Basis) => h.clean.mode = .auto ∧ h.clean.basis = some b
     let cleaned := fun (setup : Setup) (c : Cleaning) => { h with
      setup := setup, clean := c,
      arb := { h.arb with clean :=
        if c.claimed = h.clean.claimed then h.arb.clean
        else if c.claimed.getD 0 = 0 then { h.arb.clean with active := false }
        else { active := true, kind := .atLeast, level := c.claimed.getD 0, takenAt := h.time.uptime } } : State }
     let floor := { u with autoFloor := n }
     let fall := { u with cleanFallback := n }
     let table := { u with bands := bandsOf value }
     let carried : Cleaning := { h.clean with basis := some .carried, band := none, stepDown := none }
     (now 21 = cleaned floor (if auto .floor then { h.clean with autoLevel := some n } else h.clean)) ∧
     (now 22 = cleaned fall (if auto .fallback then { h.clean with autoLevel := some n } else h.clean)) ∧
     (h.clean.mode ≠ .auto ∨ h.clean.basis = some .fallback → now 20 = { h with setup := table }) ∧
     (h.clean.mode = .auto → h.clean.basis ≠ some .fallback →
      (h.qual .pm = none → now 20 = cleaned table carried) ∧
      ∀ v, h.qual .pm = some v →
        let target := targetBand table.bands v
        now 20 = cleaned table (
          if h.clean.autoLevel.getD 0 ≤ table.levelOf target then { carried with
            basis := some (if target = none then .floor else .band), band := target, autoLevel := some (table.levelOf target) }
          else { carried with stepDown := some 0 }))) ∧
    (now 30 = { h with
      setup := { u with checkInterval := n },
      filt := { h.filt with check :=
        if h.link.part = .active ∧ h.filt.check.state = .idle ∧ n ≤ h.filt.check.runCount then
          { h.filt.check with state := .due, dueCause := some .interval }
        else h.filt.check } })

/-- START, RESET and the end of a reply: START checks the level table, the defrost level and the bands; a RESET is answered before it takes
effect; when the reply has left, the answer place empties and the held request is taken, or the reset begins (R169, R174, R175, R177). That
REPLY_SENT and the row SOFT_RESET or LINK_FULL_RESET have one and the same effect is the model's deduction (log entry 20). -/
def Obligations.StartResetAndTheEndOfAReply : Prop :=
  ∀ s : State, s.rst.inReset = false →
    (s.link.answer = none →
      let h := clearSilence s
      let u := h.setup
      let t := h.after { h with link := { h.link with part := .active } }
      exec .start s = .next (
        if h.link.part = .active then h.declined .start .wrongState 0
        else if ¬ ((u.levels.map LevelEntry.speed).Pairwise (· < ·) ∧ (u.levels.map LevelEntry.flow).Pairwise (· < ·)) then
          h.declined .start .badSetup 6
        else if u.defrostLevel < u.dryFloor then h.declined .start .badSetup 8
        else if ¬ ((∀ b ∈ u.bands, b.leave < b.enter) ∧ (u.bands.map Band.enter).Pairwise (· < ·) ∧ (u.bands.map Band.level).Pairwise (· ≤ ·))
          then h.declined .start .badSetup 20
        else t.replied .start [1#8]) ∧
      exec .resetFull s = .next (h.answering (.reset 0#8) (frameOf 133#8 [0#8]) .fullReset) ∧
      exec .resetSoft s = .next (
        if h.link.part ≠ .active then h.declined (.reset 1#8) .wrongState 0
        else h.answering (.reset 1#8) (frameOf 133#8 [1#8]) .softReset) ∧
      ∀ scope : Byte, 1 < scope.toNat → takeRequest (.reset scope) h = h.declined (.reset scope) .badValue 0) ∧
    (∀ a, s.link.answer = some a →
      (a.after = .nothing → s.link.held = none → exec .replySent s = .next { s with link := { s.link with answer := none } }) ∧
      (∀ r, a.after = .nothing → s.link.held = some r →
        exec .replySent s = .next (takeRequest r { s with link := { s.link with answer := none, held := none } })) ∧
      (a.after = .softReset → exec .replySent s = exec .softReset s) ∧
      (a.after = .fullReset → exec .replySent s = exec .linkFullReset s))

/-- FAULT_CLEAR, target by target (R31, R56, R85, R127, R172). -/
def Obligations.FaultClearsClearTheirOwn : Prop :=
  ∀ (channel : Byte) (s : State), s.listening →
    let h := clearSilence s
    let echo := fun (target : Byte) (t : State) => Host.Outcome.next (t.replied (.faultClear target channel) [target, channel])
    let f : Fan := { h.fan with
      stalls := 0, fault := false, measured := none, atLevel := false, settleCount := 0, discard := false, edge := false, periods := 0,
      periodSum := 0 }
    exec (.faultClearFan channel) s = echo 0#8 (h.after { h with fan :=
      if h.fan.fault = false then { h.fan with stalls := 0 }
      else if 0 < h.arb.granted ∧ h.water.cover.filtered = false then { f with state := .spinningUp, timer := 0 }
      else { f with state := .off } }) ∧
    exec (.faultClearCompressor channel) s = echo 1#8 (h.after { h with dry := { h.dry with failures := 0, disabled := false } }) ∧
    exec (.faultClearPump channel) s = echo 2#8 (h.after { h with water := { h.water with failures := 0, fault := false } }) ∧
    exec (.faultClearLink channel) s =
      echo 3#8 { h with link := { h.link with overlong := 0, truncated := 0, badCheck := 0, overrun := 0 } } ∧
    (8 ≤ channel.toNat → channel.toNat ≤ 254 →
      exec (.faultClearChannel channel) s = .next (h.declined (.faultClear 4#8 channel) .badValue 0)) ∧
    (channel.toNat < 8 ∨ channel = 255#8 → ∃ t, exec (.faultClearChannel channel) s = echo 4#8 t ∧
      (∀ c : Channel, channel = 255#8 ∨ c.num = channel.toNat →
        ((h.chan c).state ≠ .faulted → t.chan c = { h.chan c with faultCount := 0 }) ∧
        ((h.chan c).state = .faulted → t.chan c = { h.chan c with
          faultCount := 0, window := [], run := 0, value := none,
          state := if c ∉ h.scan.members then .off else if c ≠ .pm then .qualifying else if h.clean.pmPwr = false then .off
            else if 0 < (h.chan .pm).warmup.getD 0 then .warming else .qualifying })) ∧
      ∀ c : Channel, channel ≠ 255#8 → c.num ≠ channel.toNat → t.chan c = h.chan c)

/-- The receiver byte by byte, with the frames it discards, the check of the frame it completes, and LINK_SILENT at the tick that ends the
silence (R167 to R169, R173). The note that a tick's tests are still to be made is the model's own (log entry 51). -/
def Obligations.ReceiverFollowsTheFrame : Prop :=
  ∀ (b : Byte) (s : State), s.rst.inReset = false →
    let rx := fun (r : Receiver) => { s with link := { s.link with receiver := r } : State }
    let got := exec (.byteReceived b) s
    (s.link.receiver = .hunting → got = .next (if b = 0xC3#8 then rx .kind else s)) ∧
    (s.link.receiver = .kind → got = .next (rx (.len b))) ∧
    (∀ kind, s.link.receiver = .len kind →
      (b.toNat ≤ 200 → got = .next (rx (.payload kind b []))) ∧
      (200 < b.toNat →
        let t : State := { s with link := { s.link with receiver := .hunting, overlong := min 65535 (s.link.overlong + 1) } }
        got = .next t ∧ exec (.overlong b) s = .next t)) ∧
    (∀ kind len bytes, s.link.receiver = .payload kind len bytes →
      (bytes.length < len.toNat → got = .next (rx (.payload kind len (bytes ++ [b])))) ∧
      (bytes.length = len.toNat → got = exec (.frameComplete b) s ∧
        (b = crc8 (kind :: len :: bytes) → got = .next (arrive (parse kind bytes) (rx .hunting))) ∧
        (b ≠ crc8 (kind :: len :: bytes) →
          let t : State := { s with link := { s.link with receiver := .hunting, badCheck := min 65535 (s.link.badCheck + 1) } }
          let bad := Request.refusedByLink 0#8 .frameError
          (s.link.answer = none → got = .next (t.declined bad .frameError 0)) ∧
          (s.link.answer ≠ none → s.link.held = none → got = .next { t with link := { t.link with held := some bad } }) ∧
          (s.link.answer ≠ none → s.link.held ≠ none →
            got = .next { t with link := { t.link with overrun := min 65535 (t.link.overrun + 1) } })))) ∧
    (s.link.receiver ≠ .hunting → exec .truncated s =
      .next { s with link := { s.link with receiver := .hunting, truncated := min 65535 (s.link.truncated + 1) } }) ∧
    (s.time.tested = false → 0 < s.setup.linkSilence → s.link.silent = false → s.setup.linkSilence ≤ s.link.silence →
      exec .linkSilent s = .next (s.after { s with link := { s.link with silent := true } })) ∧
    crc8 [1#8, 0#8] = 0x15#8

/-- Every request row is carried whole by its frame: the payload's layout is read back to the same request, and the frame's bytes, SYNC to
CHECK, do what the row does (R167 to R171, R181). That a request row stands for its frame is the model's choice (log entry 8). -/
def Obligations.FramesCarryRequestsWhole : Prop :=
  ∀ (i : Instr) (r : Request) (s : State), asked i = some r → i.wellFormed = true → s.rst.inReset = false → s.link.receiver = .hunting →
    (payloadOf r).length ≤ 200 ∧ parse (kindOf r) (payloadOf r) = r ∧ fed (frameOf (kindOf r) (payloadOf r)) s = exec i s

/-! The Service Unit -/

/-- SERVICE_RUN of each kind with its refusals in order and its start, SERVICE_STOP, and the expiry (R182 to R186). -/
def Obligations.ServiceRunsStartAndEnd : Prop :=
  ∀ s : State, s.rst.inReset = false →
    (s.link.answer = none →
      let h := clearSilence s
      let ran := fun (r : Request) (u : State) => (h.after u).replied r (serviceBytes (h.after u).serv.run)
      (∀ params : List Byte, params.length ≠ 4 → exec (.serviceRunFan params) s = .next (
        if h.link.part ≠ .active then h.declined (.serviceRun 0#8 params) .wrongState 0
        else h.declined (.serviceRun 0#8 params) .badLength 0)) ∧
      (∀ a b c d : Byte,
        let r := Request.serviceRun 0#8 [a, b, c, d]
        let duration := b.toNat + 256 * c.toNat
        let channel := Channel.ofNum d.toNat
        exec (.serviceRunFan [a, b, c, d]) s = .next (
          if h.link.part ≠ .active then h.declined r .wrongState 0
          else if h.serv.run.isSome = true then h.declined r .busy 0
          else if 12 < a.toNat then h.declined r .badValue 1
          else if duration = 0 ∨ 600 < duration then h.declined r .badValue 2
          else if 7 < d.toNat ∧ d ≠ 255#8 then h.declined r .badValue 3
          else if h.comp.on = true ∨ h.dry.phase = .starting then h.declined r .wrongState 0
          else ran r { h with
            serv := { h.serv with run := some { kind := .fan, level := some a.toNat, channel := channel, remaining := some duration } },
            arb := { h.arb with service := { active := true, kind := .exactly, level := a.toNat, takenAt := h.time.uptime } },
            scan := { h.scan with claims := match channel with
              | some x => takeClaimIn .service x h.scan.claims
              | none => h.scan.claims } })) ∧
      (∀ params : List Byte, params.length ≠ 2 → exec (.serviceRunCompressor params) s = .next (
        if h.link.part ≠ .active then h.declined (.serviceRun 1#8 params) .wrongState 0
        else h.declined (.serviceRun 1#8 params) .badLength 0)) ∧
      (∀ a b : Byte,
        let r := Request.serviceRun 1#8 [a, b]
        let duration := a.toNat + 256 * b.toNat
        exec (.serviceRunCompressor [a, b]) s = .next (
          if h.link.part ≠ .active then h.declined r .wrongState 0
          else if h.serv.run.isSome = true then h.declined r .busy 0
          else if h.setup.optCompressor = false then h.declined r .notFitted 0
          else if duration < 60 ∨ 900 < duration then h.declined r .badValue 2
          else if h.dry.disabled = true then h.declined r .faultLatched 0
          else ran r { h with
            serv := { h.serv with run := some { kind := .compressor, level := none, channel := none, remaining := some duration } } })) ∧
      (∀ params : List Byte,
        let r := Request.serviceRun 2#8 params
        let u : State := { h with serv := { h.serv with run := some { kind := .pump, level := none, channel := none, remaining := none } } }
        exec (.serviceRunPump params) s = .next (
          if h.link.part ≠ .active then h.declined r .wrongState 0
          else if params ≠ [] then h.declined r .badLength 0
          else if h.serv.run.isSome = true then h.declined r .busy 0
          else if h.setup.optDrain ≠ .pump then h.declined r .notFitted 0
          else if h.water.fault = true then h.declined r .faultLatched 0
          else if h.water.pump.state ≠ .idle then h.declined r .busy 0
          else if h.water.tankIn.filtered = false then h.declined r .wrongState 1
          else if h.supplyLow = true then h.declined r .wrongState 2
          else ran r (u.pumpStarted .service))) ∧
      exec .serviceStop s = .next (
        if h.link.part ≠ .active then h.declined .serviceStop .wrongState 0 else ran .serviceStop h.serviceStopped)) ∧
    (∀ r, s.serv.run = some r → r.remaining = some 0 → exec .serviceRunExpiry s = .next (s.after s.serviceStopped))

/-- SUBST_SET with its refusals in order, SUBST_CLEAR, and how a record's next value advances (R32, R187, R188). What the reply to SUBST_CLEAR
carries is left open (log entry 5). That a step field of 0x8000 is the step -32768 is the model's choice (log entry 54). -/
def Obligations.SubstitutionsReplaceAndAdvance : Prop :=
  (∀ (channel kind : Byte) (params : List Byte) (s : State), s.listening →
    let h := clearSilence s
    let r := Request.substSet channel kind params
    let run := exec (.substSet channel kind params) s
    let inForce := fun (c : Channel) (x : Subst) => ∃ t : State, run = .next (t.replied r (substBytes (some x))) ∧
      t.serv.subst = h.serv.subst.set c (some x) ∧ t.serv.run = h.serv.run ∧
      (∀ d, d ≠ c → t.chan d = h.chan d) ∧
      t.chan c = if (h.chan c).state = .qualifying ∨ (h.chan c).state = .qualified then
          { h.chan c with subst := true, state := .qualifying, window := [], run := 0, value := none }
        else { h.chan c with subst := true }
    (7 < channel.toNat → run = .next (h.declined r .badValue 0)) ∧
    ∀ c : Channel, c.num = channel.toNat →
      let spans := fun (v : Int) => c.scale.low ≤ v ∧ v ≤ c.scale.high
      (1 < kind.toNat → run = .next (h.declined r .badValue 1)) ∧
      (kind = 0#8 → params.length ≠ 2 → run = .next (h.declined r .badLength 0)) ∧
      (kind = 1#8 → params.length ≠ 7 → run = .next (h.declined r .badLength 0)) ∧
      (∀ a b, kind = 0#8 → params = [a, b] →
        let v := signedValue [a, b]
        (¬ spans v → run = .next (h.declined r .badValue 2)) ∧ (spans v → inForce c { kind := .fixed v, next := v })) ∧
      (∀ a b p q x y k, kind = 1#8 → params = [a, b, p, q, x, y, k] →
        let start := signedValue [a, b]
        let step := signedValue [p, q]
        let stop := signedValue [x, y]
        let leads := (0 < step ∧ start < stop) ∨ (step < 0 ∧ stop < start)
        (¬ (spans start ∧ spans stop) → run = .next (h.declined r .badValue 2)) ∧
        (spans start → spans stop → ¬ leads → run = .next (h.declined r .badValue 3)) ∧
        (spans start → spans stop → leads → 1 < k.toNat → run = .next (h.declined r .badValue 4)) ∧
        (spans start → spans stop → leads → k.toNat ≤ 1 →
          inForce c { kind := .ramp start step stop (decide (k = 1#8)), next := start }))) ∧
  (∀ (channel : Byte) (s : State), s.listening →
    let h := clearSilence s
    let r := Request.substClear channel
    (8 ≤ channel.toNat → channel.toNat ≤ 254 → exec (.substClear channel) s = .next (h.declined r .badValue 0)) ∧
    (channel.toNat < 8 ∨ channel = 255#8 → ∃ (t : State) (payload : List Byte), exec (.substClear channel) s = .next (t.replied r payload) ∧ t.serv.run = h.serv.run ∧
      ∀ c : Channel,
        (channel = 255#8 ∨ c.num = channel.toNat → h.serv.subst.get c ≠ none → t.serv.subst.get c = none ∧
          t.chan c = if (h.chan c).state = .qualifying ∨ (h.chan c).state = .qualified then
              { h.chan c with subst := false, state := .qualifying, window := [], run := 0, value := none }
            else { h.chan c with subst := false }) ∧
        (channel ≠ 255#8 ∧ c.num ≠ channel.toNat ∨ h.serv.subst.get c = none →
          t.serv.subst.get c = h.serv.subst.get c ∧ t.chan c = h.chan c))) ∧
  ∀ r : Subst,
    (∀ v, r.kind = .fixed v → r.advance = { r with next := v }) ∧
    ∀ start step stop again, r.kind = .ramp start step stop again →
      (r.next = stop → r.advance = { r with next := if again then start else stop }) ∧
      (r.next ≠ stop → (0 < step ∧ stop ≤ r.next + step) ∨ (step < 0 ∧ r.next + step ≤ stop) → r.advance = { r with next := stop }) ∧
      (r.next ≠ stop → ¬ ((0 < step ∧ stop ≤ r.next + step) ∨ (step < 0 ∧ r.next + step ≤ stop)) →
        r.advance = { r with next := r.next + step })
end

