-- ==== Sys2Proof/Laws/State.lean ====
section
/-! SUPPORT. One lemma per field of State per update of a block: a field reads as it was written, and the others as they were. -/

namespace Sys2Proof.Machine

/-! Pending -/

@[simp] theorem State.setPending_pending (s : State) (x : List Instr) : (s.setPending x).pending = x := rfl
@[simp] theorem State.setPending_free (s : State) (x : List Instr) : (s.setPending x).free = s.free := rfl
@[simp] theorem State.setPending_rst (s : State) (x : List Instr) : (s.setPending x).rst = s.rst := rfl
@[simp] theorem State.setPending_time (s : State) (x : List Instr) : (s.setPending x).time = s.time := rfl
@[simp] theorem State.setPending_setup (s : State) (x : List Instr) : (s.setPending x).setup = s.setup := rfl
@[simp] theorem State.setPending_scan (s : State) (x : List Instr) : (s.setPending x).scan = s.scan := rfl
@[simp] theorem State.setPending_chans (s : State) (x : List Instr) : (s.setPending x).chans = s.chans := rfl
@[simp] theorem State.setPending_arb (s : State) (x : List Instr) : (s.setPending x).arb = s.arb := rfl
@[simp] theorem State.setPending_fan (s : State) (x : List Instr) : (s.setPending x).fan = s.fan := rfl
@[simp] theorem State.setPending_comp (s : State) (x : List Instr) : (s.setPending x).comp = s.comp := rfl
@[simp] theorem State.setPending_clean (s : State) (x : List Instr) : (s.setPending x).clean = s.clean := rfl
@[simp] theorem State.setPending_dry (s : State) (x : List Instr) : (s.setPending x).dry = s.dry := rfl
@[simp] theorem State.setPending_water (s : State) (x : List Instr) : (s.setPending x).water = s.water := rfl
@[simp] theorem State.setPending_filt (s : State) (x : List Instr) : (s.setPending x).filt = s.filt := rfl
@[simp] theorem State.setPending_supplyLow (s : State) (x : List Instr) : (s.setPending x).supplyLow = s.supplyLow := rfl
@[simp] theorem State.setPending_ev (s : State) (x : List Instr) : (s.setPending x).ev = s.ev := rfl
@[simp] theorem State.setPending_serv (s : State) (x : List Instr) : (s.setPending x).serv = s.serv := rfl
@[simp] theorem State.setPending_link (s : State) (x : List Instr) : (s.setPending x).link = s.link := rfl

/-! Free -/

@[simp] theorem State.setFree_pending (s : State) (x : Nat) : (s.setFree x).pending = s.pending := rfl
@[simp] theorem State.setFree_free (s : State) (x : Nat) : (s.setFree x).free = x := rfl
@[simp] theorem State.setFree_rst (s : State) (x : Nat) : (s.setFree x).rst = s.rst := rfl
@[simp] theorem State.setFree_time (s : State) (x : Nat) : (s.setFree x).time = s.time := rfl
@[simp] theorem State.setFree_setup (s : State) (x : Nat) : (s.setFree x).setup = s.setup := rfl
@[simp] theorem State.setFree_scan (s : State) (x : Nat) : (s.setFree x).scan = s.scan := rfl
@[simp] theorem State.setFree_chans (s : State) (x : Nat) : (s.setFree x).chans = s.chans := rfl
@[simp] theorem State.setFree_arb (s : State) (x : Nat) : (s.setFree x).arb = s.arb := rfl
@[simp] theorem State.setFree_fan (s : State) (x : Nat) : (s.setFree x).fan = s.fan := rfl
@[simp] theorem State.setFree_comp (s : State) (x : Nat) : (s.setFree x).comp = s.comp := rfl
@[simp] theorem State.setFree_clean (s : State) (x : Nat) : (s.setFree x).clean = s.clean := rfl
@[simp] theorem State.setFree_dry (s : State) (x : Nat) : (s.setFree x).dry = s.dry := rfl
@[simp] theorem State.setFree_water (s : State) (x : Nat) : (s.setFree x).water = s.water := rfl
@[simp] theorem State.setFree_filt (s : State) (x : Nat) : (s.setFree x).filt = s.filt := rfl
@[simp] theorem State.setFree_supplyLow (s : State) (x : Nat) : (s.setFree x).supplyLow = s.supplyLow := rfl
@[simp] theorem State.setFree_ev (s : State) (x : Nat) : (s.setFree x).ev = s.ev := rfl
@[simp] theorem State.setFree_serv (s : State) (x : Nat) : (s.setFree x).serv = s.serv := rfl
@[simp] theorem State.setFree_link (s : State) (x : Nat) : (s.setFree x).link = s.link := rfl

/-! Rst -/

@[simp] theorem State.setRst_pending (s : State) (x : Resets) : (s.setRst x).pending = s.pending := rfl
@[simp] theorem State.setRst_free (s : State) (x : Resets) : (s.setRst x).free = s.free := rfl
@[simp] theorem State.setRst_rst (s : State) (x : Resets) : (s.setRst x).rst = x := rfl
@[simp] theorem State.setRst_time (s : State) (x : Resets) : (s.setRst x).time = s.time := rfl
@[simp] theorem State.setRst_setup (s : State) (x : Resets) : (s.setRst x).setup = s.setup := rfl
@[simp] theorem State.setRst_scan (s : State) (x : Resets) : (s.setRst x).scan = s.scan := rfl
@[simp] theorem State.setRst_chans (s : State) (x : Resets) : (s.setRst x).chans = s.chans := rfl
@[simp] theorem State.setRst_arb (s : State) (x : Resets) : (s.setRst x).arb = s.arb := rfl
@[simp] theorem State.setRst_fan (s : State) (x : Resets) : (s.setRst x).fan = s.fan := rfl
@[simp] theorem State.setRst_comp (s : State) (x : Resets) : (s.setRst x).comp = s.comp := rfl
@[simp] theorem State.setRst_clean (s : State) (x : Resets) : (s.setRst x).clean = s.clean := rfl
@[simp] theorem State.setRst_dry (s : State) (x : Resets) : (s.setRst x).dry = s.dry := rfl
@[simp] theorem State.setRst_water (s : State) (x : Resets) : (s.setRst x).water = s.water := rfl
@[simp] theorem State.setRst_filt (s : State) (x : Resets) : (s.setRst x).filt = s.filt := rfl
@[simp] theorem State.setRst_supplyLow (s : State) (x : Resets) : (s.setRst x).supplyLow = s.supplyLow := rfl
@[simp] theorem State.setRst_ev (s : State) (x : Resets) : (s.setRst x).ev = s.ev := rfl
@[simp] theorem State.setRst_serv (s : State) (x : Resets) : (s.setRst x).serv = s.serv := rfl
@[simp] theorem State.setRst_link (s : State) (x : Resets) : (s.setRst x).link = s.link := rfl

/-! Time -/

@[simp] theorem State.setTime_pending (s : State) (x : TimeBase) : (s.setTime x).pending = s.pending := rfl
@[simp] theorem State.setTime_free (s : State) (x : TimeBase) : (s.setTime x).free = s.free := rfl
@[simp] theorem State.setTime_rst (s : State) (x : TimeBase) : (s.setTime x).rst = s.rst := rfl
@[simp] theorem State.setTime_time (s : State) (x : TimeBase) : (s.setTime x).time = x := rfl
@[simp] theorem State.setTime_setup (s : State) (x : TimeBase) : (s.setTime x).setup = s.setup := rfl
@[simp] theorem State.setTime_scan (s : State) (x : TimeBase) : (s.setTime x).scan = s.scan := rfl
@[simp] theorem State.setTime_chans (s : State) (x : TimeBase) : (s.setTime x).chans = s.chans := rfl
@[simp] theorem State.setTime_arb (s : State) (x : TimeBase) : (s.setTime x).arb = s.arb := rfl
@[simp] theorem State.setTime_fan (s : State) (x : TimeBase) : (s.setTime x).fan = s.fan := rfl
@[simp] theorem State.setTime_comp (s : State) (x : TimeBase) : (s.setTime x).comp = s.comp := rfl
@[simp] theorem State.setTime_clean (s : State) (x : TimeBase) : (s.setTime x).clean = s.clean := rfl
@[simp] theorem State.setTime_dry (s : State) (x : TimeBase) : (s.setTime x).dry = s.dry := rfl
@[simp] theorem State.setTime_water (s : State) (x : TimeBase) : (s.setTime x).water = s.water := rfl
@[simp] theorem State.setTime_filt (s : State) (x : TimeBase) : (s.setTime x).filt = s.filt := rfl
@[simp] theorem State.setTime_supplyLow (s : State) (x : TimeBase) : (s.setTime x).supplyLow = s.supplyLow := rfl
@[simp] theorem State.setTime_ev (s : State) (x : TimeBase) : (s.setTime x).ev = s.ev := rfl
@[simp] theorem State.setTime_serv (s : State) (x : TimeBase) : (s.setTime x).serv = s.serv := rfl
@[simp] theorem State.setTime_link (s : State) (x : TimeBase) : (s.setTime x).link = s.link := rfl

/-! Setup -/

@[simp] theorem State.setSetup_pending (s : State) (x : Setup) : (s.setSetup x).pending = s.pending := rfl
@[simp] theorem State.setSetup_free (s : State) (x : Setup) : (s.setSetup x).free = s.free := rfl
@[simp] theorem State.setSetup_rst (s : State) (x : Setup) : (s.setSetup x).rst = s.rst := rfl
@[simp] theorem State.setSetup_time (s : State) (x : Setup) : (s.setSetup x).time = s.time := rfl
@[simp] theorem State.setSetup_setup (s : State) (x : Setup) : (s.setSetup x).setup = x := rfl
@[simp] theorem State.setSetup_scan (s : State) (x : Setup) : (s.setSetup x).scan = s.scan := rfl
@[simp] theorem State.setSetup_chans (s : State) (x : Setup) : (s.setSetup x).chans = s.chans := rfl
@[simp] theorem State.setSetup_arb (s : State) (x : Setup) : (s.setSetup x).arb = s.arb := rfl
@[simp] theorem State.setSetup_fan (s : State) (x : Setup) : (s.setSetup x).fan = s.fan := rfl
@[simp] theorem State.setSetup_comp (s : State) (x : Setup) : (s.setSetup x).comp = s.comp := rfl
@[simp] theorem State.setSetup_clean (s : State) (x : Setup) : (s.setSetup x).clean = s.clean := rfl
@[simp] theorem State.setSetup_dry (s : State) (x : Setup) : (s.setSetup x).dry = s.dry := rfl
@[simp] theorem State.setSetup_water (s : State) (x : Setup) : (s.setSetup x).water = s.water := rfl
@[simp] theorem State.setSetup_filt (s : State) (x : Setup) : (s.setSetup x).filt = s.filt := rfl
@[simp] theorem State.setSetup_supplyLow (s : State) (x : Setup) : (s.setSetup x).supplyLow = s.supplyLow := rfl
@[simp] theorem State.setSetup_ev (s : State) (x : Setup) : (s.setSetup x).ev = s.ev := rfl
@[simp] theorem State.setSetup_serv (s : State) (x : Setup) : (s.setSetup x).serv = s.serv := rfl
@[simp] theorem State.setSetup_link (s : State) (x : Setup) : (s.setSetup x).link = s.link := rfl

/-! Scan -/

@[simp] theorem State.setScan_pending (s : State) (x : Scanner) : (s.setScan x).pending = s.pending := rfl
@[simp] theorem State.setScan_free (s : State) (x : Scanner) : (s.setScan x).free = s.free := rfl
@[simp] theorem State.setScan_rst (s : State) (x : Scanner) : (s.setScan x).rst = s.rst := rfl
@[simp] theorem State.setScan_time (s : State) (x : Scanner) : (s.setScan x).time = s.time := rfl
@[simp] theorem State.setScan_setup (s : State) (x : Scanner) : (s.setScan x).setup = s.setup := rfl
@[simp] theorem State.setScan_scan (s : State) (x : Scanner) : (s.setScan x).scan = x := rfl
@[simp] theorem State.setScan_chans (s : State) (x : Scanner) : (s.setScan x).chans = s.chans := rfl
@[simp] theorem State.setScan_arb (s : State) (x : Scanner) : (s.setScan x).arb = s.arb := rfl
@[simp] theorem State.setScan_fan (s : State) (x : Scanner) : (s.setScan x).fan = s.fan := rfl
@[simp] theorem State.setScan_comp (s : State) (x : Scanner) : (s.setScan x).comp = s.comp := rfl
@[simp] theorem State.setScan_clean (s : State) (x : Scanner) : (s.setScan x).clean = s.clean := rfl
@[simp] theorem State.setScan_dry (s : State) (x : Scanner) : (s.setScan x).dry = s.dry := rfl
@[simp] theorem State.setScan_water (s : State) (x : Scanner) : (s.setScan x).water = s.water := rfl
@[simp] theorem State.setScan_filt (s : State) (x : Scanner) : (s.setScan x).filt = s.filt := rfl
@[simp] theorem State.setScan_supplyLow (s : State) (x : Scanner) : (s.setScan x).supplyLow = s.supplyLow := rfl
@[simp] theorem State.setScan_ev (s : State) (x : Scanner) : (s.setScan x).ev = s.ev := rfl
@[simp] theorem State.setScan_serv (s : State) (x : Scanner) : (s.setScan x).serv = s.serv := rfl
@[simp] theorem State.setScan_link (s : State) (x : Scanner) : (s.setScan x).link = s.link := rfl

/-! Chans -/

@[simp] theorem State.setChans_pending (s : State) (x : PerChannel Chan) : (s.setChans x).pending = s.pending := rfl
@[simp] theorem State.setChans_free (s : State) (x : PerChannel Chan) : (s.setChans x).free = s.free := rfl
@[simp] theorem State.setChans_rst (s : State) (x : PerChannel Chan) : (s.setChans x).rst = s.rst := rfl
@[simp] theorem State.setChans_time (s : State) (x : PerChannel Chan) : (s.setChans x).time = s.time := rfl
@[simp] theorem State.setChans_setup (s : State) (x : PerChannel Chan) : (s.setChans x).setup = s.setup := rfl
@[simp] theorem State.setChans_scan (s : State) (x : PerChannel Chan) : (s.setChans x).scan = s.scan := rfl
@[simp] theorem State.setChans_chans (s : State) (x : PerChannel Chan) : (s.setChans x).chans = x := rfl
@[simp] theorem State.setChans_arb (s : State) (x : PerChannel Chan) : (s.setChans x).arb = s.arb := rfl
@[simp] theorem State.setChans_fan (s : State) (x : PerChannel Chan) : (s.setChans x).fan = s.fan := rfl
@[simp] theorem State.setChans_comp (s : State) (x : PerChannel Chan) : (s.setChans x).comp = s.comp := rfl
@[simp] theorem State.setChans_clean (s : State) (x : PerChannel Chan) : (s.setChans x).clean = s.clean := rfl
@[simp] theorem State.setChans_dry (s : State) (x : PerChannel Chan) : (s.setChans x).dry = s.dry := rfl
@[simp] theorem State.setChans_water (s : State) (x : PerChannel Chan) : (s.setChans x).water = s.water := rfl
@[simp] theorem State.setChans_filt (s : State) (x : PerChannel Chan) : (s.setChans x).filt = s.filt := rfl
@[simp] theorem State.setChans_supplyLow (s : State) (x : PerChannel Chan) : (s.setChans x).supplyLow = s.supplyLow := rfl
@[simp] theorem State.setChans_ev (s : State) (x : PerChannel Chan) : (s.setChans x).ev = s.ev := rfl
@[simp] theorem State.setChans_serv (s : State) (x : PerChannel Chan) : (s.setChans x).serv = s.serv := rfl
@[simp] theorem State.setChans_link (s : State) (x : PerChannel Chan) : (s.setChans x).link = s.link := rfl

/-! Arb -/

@[simp] theorem State.setArb_pending (s : State) (x : Arbiter) : (s.setArb x).pending = s.pending := rfl
@[simp] theorem State.setArb_free (s : State) (x : Arbiter) : (s.setArb x).free = s.free := rfl
@[simp] theorem State.setArb_rst (s : State) (x : Arbiter) : (s.setArb x).rst = s.rst := rfl
@[simp] theorem State.setArb_time (s : State) (x : Arbiter) : (s.setArb x).time = s.time := rfl
@[simp] theorem State.setArb_setup (s : State) (x : Arbiter) : (s.setArb x).setup = s.setup := rfl
@[simp] theorem State.setArb_scan (s : State) (x : Arbiter) : (s.setArb x).scan = s.scan := rfl
@[simp] theorem State.setArb_chans (s : State) (x : Arbiter) : (s.setArb x).chans = s.chans := rfl
@[simp] theorem State.setArb_arb (s : State) (x : Arbiter) : (s.setArb x).arb = x := rfl
@[simp] theorem State.setArb_fan (s : State) (x : Arbiter) : (s.setArb x).fan = s.fan := rfl
@[simp] theorem State.setArb_comp (s : State) (x : Arbiter) : (s.setArb x).comp = s.comp := rfl
@[simp] theorem State.setArb_clean (s : State) (x : Arbiter) : (s.setArb x).clean = s.clean := rfl
@[simp] theorem State.setArb_dry (s : State) (x : Arbiter) : (s.setArb x).dry = s.dry := rfl
@[simp] theorem State.setArb_water (s : State) (x : Arbiter) : (s.setArb x).water = s.water := rfl
@[simp] theorem State.setArb_filt (s : State) (x : Arbiter) : (s.setArb x).filt = s.filt := rfl
@[simp] theorem State.setArb_supplyLow (s : State) (x : Arbiter) : (s.setArb x).supplyLow = s.supplyLow := rfl
@[simp] theorem State.setArb_ev (s : State) (x : Arbiter) : (s.setArb x).ev = s.ev := rfl
@[simp] theorem State.setArb_serv (s : State) (x : Arbiter) : (s.setArb x).serv = s.serv := rfl
@[simp] theorem State.setArb_link (s : State) (x : Arbiter) : (s.setArb x).link = s.link := rfl

/-! Fan -/

@[simp] theorem State.setFan_pending (s : State) (x : Fan) : (s.setFan x).pending = s.pending := rfl
@[simp] theorem State.setFan_free (s : State) (x : Fan) : (s.setFan x).free = s.free := rfl
@[simp] theorem State.setFan_rst (s : State) (x : Fan) : (s.setFan x).rst = s.rst := rfl
@[simp] theorem State.setFan_time (s : State) (x : Fan) : (s.setFan x).time = s.time := rfl
@[simp] theorem State.setFan_setup (s : State) (x : Fan) : (s.setFan x).setup = s.setup := rfl
@[simp] theorem State.setFan_scan (s : State) (x : Fan) : (s.setFan x).scan = s.scan := rfl
@[simp] theorem State.setFan_chans (s : State) (x : Fan) : (s.setFan x).chans = s.chans := rfl
@[simp] theorem State.setFan_arb (s : State) (x : Fan) : (s.setFan x).arb = s.arb := rfl
@[simp] theorem State.setFan_fan (s : State) (x : Fan) : (s.setFan x).fan = x := rfl
@[simp] theorem State.setFan_comp (s : State) (x : Fan) : (s.setFan x).comp = s.comp := rfl
@[simp] theorem State.setFan_clean (s : State) (x : Fan) : (s.setFan x).clean = s.clean := rfl
@[simp] theorem State.setFan_dry (s : State) (x : Fan) : (s.setFan x).dry = s.dry := rfl
@[simp] theorem State.setFan_water (s : State) (x : Fan) : (s.setFan x).water = s.water := rfl
@[simp] theorem State.setFan_filt (s : State) (x : Fan) : (s.setFan x).filt = s.filt := rfl
@[simp] theorem State.setFan_supplyLow (s : State) (x : Fan) : (s.setFan x).supplyLow = s.supplyLow := rfl
@[simp] theorem State.setFan_ev (s : State) (x : Fan) : (s.setFan x).ev = s.ev := rfl
@[simp] theorem State.setFan_serv (s : State) (x : Fan) : (s.setFan x).serv = s.serv := rfl
@[simp] theorem State.setFan_link (s : State) (x : Fan) : (s.setFan x).link = s.link := rfl

/-! Comp -/

@[simp] theorem State.setComp_pending (s : State) (x : CompDrive) : (s.setComp x).pending = s.pending := rfl
@[simp] theorem State.setComp_free (s : State) (x : CompDrive) : (s.setComp x).free = s.free := rfl
@[simp] theorem State.setComp_rst (s : State) (x : CompDrive) : (s.setComp x).rst = s.rst := rfl
@[simp] theorem State.setComp_time (s : State) (x : CompDrive) : (s.setComp x).time = s.time := rfl
@[simp] theorem State.setComp_setup (s : State) (x : CompDrive) : (s.setComp x).setup = s.setup := rfl
@[simp] theorem State.setComp_scan (s : State) (x : CompDrive) : (s.setComp x).scan = s.scan := rfl
@[simp] theorem State.setComp_chans (s : State) (x : CompDrive) : (s.setComp x).chans = s.chans := rfl
@[simp] theorem State.setComp_arb (s : State) (x : CompDrive) : (s.setComp x).arb = s.arb := rfl
@[simp] theorem State.setComp_fan (s : State) (x : CompDrive) : (s.setComp x).fan = s.fan := rfl
@[simp] theorem State.setComp_comp (s : State) (x : CompDrive) : (s.setComp x).comp = x := rfl
@[simp] theorem State.setComp_clean (s : State) (x : CompDrive) : (s.setComp x).clean = s.clean := rfl
@[simp] theorem State.setComp_dry (s : State) (x : CompDrive) : (s.setComp x).dry = s.dry := rfl
@[simp] theorem State.setComp_water (s : State) (x : CompDrive) : (s.setComp x).water = s.water := rfl
@[simp] theorem State.setComp_filt (s : State) (x : CompDrive) : (s.setComp x).filt = s.filt := rfl
@[simp] theorem State.setComp_supplyLow (s : State) (x : CompDrive) : (s.setComp x).supplyLow = s.supplyLow := rfl
@[simp] theorem State.setComp_ev (s : State) (x : CompDrive) : (s.setComp x).ev = s.ev := rfl
@[simp] theorem State.setComp_serv (s : State) (x : CompDrive) : (s.setComp x).serv = s.serv := rfl
@[simp] theorem State.setComp_link (s : State) (x : CompDrive) : (s.setComp x).link = s.link := rfl

/-! Clean -/

@[simp] theorem State.setClean_pending (s : State) (x : Cleaning) : (s.setClean x).pending = s.pending := rfl
@[simp] theorem State.setClean_free (s : State) (x : Cleaning) : (s.setClean x).free = s.free := rfl
@[simp] theorem State.setClean_rst (s : State) (x : Cleaning) : (s.setClean x).rst = s.rst := rfl
@[simp] theorem State.setClean_time (s : State) (x : Cleaning) : (s.setClean x).time = s.time := rfl
@[simp] theorem State.setClean_setup (s : State) (x : Cleaning) : (s.setClean x).setup = s.setup := rfl
@[simp] theorem State.setClean_scan (s : State) (x : Cleaning) : (s.setClean x).scan = s.scan := rfl
@[simp] theorem State.setClean_chans (s : State) (x : Cleaning) : (s.setClean x).chans = s.chans := rfl
@[simp] theorem State.setClean_arb (s : State) (x : Cleaning) : (s.setClean x).arb = s.arb := rfl
@[simp] theorem State.setClean_fan (s : State) (x : Cleaning) : (s.setClean x).fan = s.fan := rfl
@[simp] theorem State.setClean_comp (s : State) (x : Cleaning) : (s.setClean x).comp = s.comp := rfl
@[simp] theorem State.setClean_clean (s : State) (x : Cleaning) : (s.setClean x).clean = x := rfl
@[simp] theorem State.setClean_dry (s : State) (x : Cleaning) : (s.setClean x).dry = s.dry := rfl
@[simp] theorem State.setClean_water (s : State) (x : Cleaning) : (s.setClean x).water = s.water := rfl
@[simp] theorem State.setClean_filt (s : State) (x : Cleaning) : (s.setClean x).filt = s.filt := rfl
@[simp] theorem State.setClean_supplyLow (s : State) (x : Cleaning) : (s.setClean x).supplyLow = s.supplyLow := rfl
@[simp] theorem State.setClean_ev (s : State) (x : Cleaning) : (s.setClean x).ev = s.ev := rfl
@[simp] theorem State.setClean_serv (s : State) (x : Cleaning) : (s.setClean x).serv = s.serv := rfl
@[simp] theorem State.setClean_link (s : State) (x : Cleaning) : (s.setClean x).link = s.link := rfl

/-! Dry -/

@[simp] theorem State.setDry_pending (s : State) (x : Drying) : (s.setDry x).pending = s.pending := rfl
@[simp] theorem State.setDry_free (s : State) (x : Drying) : (s.setDry x).free = s.free := rfl
@[simp] theorem State.setDry_rst (s : State) (x : Drying) : (s.setDry x).rst = s.rst := rfl
@[simp] theorem State.setDry_time (s : State) (x : Drying) : (s.setDry x).time = s.time := rfl
@[simp] theorem State.setDry_setup (s : State) (x : Drying) : (s.setDry x).setup = s.setup := rfl
@[simp] theorem State.setDry_scan (s : State) (x : Drying) : (s.setDry x).scan = s.scan := rfl
@[simp] theorem State.setDry_chans (s : State) (x : Drying) : (s.setDry x).chans = s.chans := rfl
@[simp] theorem State.setDry_arb (s : State) (x : Drying) : (s.setDry x).arb = s.arb := rfl
@[simp] theorem State.setDry_fan (s : State) (x : Drying) : (s.setDry x).fan = s.fan := rfl
@[simp] theorem State.setDry_comp (s : State) (x : Drying) : (s.setDry x).comp = s.comp := rfl
@[simp] theorem State.setDry_clean (s : State) (x : Drying) : (s.setDry x).clean = s.clean := rfl
@[simp] theorem State.setDry_dry (s : State) (x : Drying) : (s.setDry x).dry = x := rfl
@[simp] theorem State.setDry_water (s : State) (x : Drying) : (s.setDry x).water = s.water := rfl
@[simp] theorem State.setDry_filt (s : State) (x : Drying) : (s.setDry x).filt = s.filt := rfl
@[simp] theorem State.setDry_supplyLow (s : State) (x : Drying) : (s.setDry x).supplyLow = s.supplyLow := rfl
@[simp] theorem State.setDry_ev (s : State) (x : Drying) : (s.setDry x).ev = s.ev := rfl
@[simp] theorem State.setDry_serv (s : State) (x : Drying) : (s.setDry x).serv = s.serv := rfl
@[simp] theorem State.setDry_link (s : State) (x : Drying) : (s.setDry x).link = s.link := rfl

/-! Water -/

@[simp] theorem State.setWater_pending (s : State) (x : Water) : (s.setWater x).pending = s.pending := rfl
@[simp] theorem State.setWater_free (s : State) (x : Water) : (s.setWater x).free = s.free := rfl
@[simp] theorem State.setWater_rst (s : State) (x : Water) : (s.setWater x).rst = s.rst := rfl
@[simp] theorem State.setWater_time (s : State) (x : Water) : (s.setWater x).time = s.time := rfl
@[simp] theorem State.setWater_setup (s : State) (x : Water) : (s.setWater x).setup = s.setup := rfl
@[simp] theorem State.setWater_scan (s : State) (x : Water) : (s.setWater x).scan = s.scan := rfl
@[simp] theorem State.setWater_chans (s : State) (x : Water) : (s.setWater x).chans = s.chans := rfl
@[simp] theorem State.setWater_arb (s : State) (x : Water) : (s.setWater x).arb = s.arb := rfl
@[simp] theorem State.setWater_fan (s : State) (x : Water) : (s.setWater x).fan = s.fan := rfl
@[simp] theorem State.setWater_comp (s : State) (x : Water) : (s.setWater x).comp = s.comp := rfl
@[simp] theorem State.setWater_clean (s : State) (x : Water) : (s.setWater x).clean = s.clean := rfl
@[simp] theorem State.setWater_dry (s : State) (x : Water) : (s.setWater x).dry = s.dry := rfl
@[simp] theorem State.setWater_water (s : State) (x : Water) : (s.setWater x).water = x := rfl
@[simp] theorem State.setWater_filt (s : State) (x : Water) : (s.setWater x).filt = s.filt := rfl
@[simp] theorem State.setWater_supplyLow (s : State) (x : Water) : (s.setWater x).supplyLow = s.supplyLow := rfl
@[simp] theorem State.setWater_ev (s : State) (x : Water) : (s.setWater x).ev = s.ev := rfl
@[simp] theorem State.setWater_serv (s : State) (x : Water) : (s.setWater x).serv = s.serv := rfl
@[simp] theorem State.setWater_link (s : State) (x : Water) : (s.setWater x).link = s.link := rfl

/-! Filt -/

@[simp] theorem State.setFilt_pending (s : State) (x : Filters) : (s.setFilt x).pending = s.pending := rfl
@[simp] theorem State.setFilt_free (s : State) (x : Filters) : (s.setFilt x).free = s.free := rfl
@[simp] theorem State.setFilt_rst (s : State) (x : Filters) : (s.setFilt x).rst = s.rst := rfl
@[simp] theorem State.setFilt_time (s : State) (x : Filters) : (s.setFilt x).time = s.time := rfl
@[simp] theorem State.setFilt_setup (s : State) (x : Filters) : (s.setFilt x).setup = s.setup := rfl
@[simp] theorem State.setFilt_scan (s : State) (x : Filters) : (s.setFilt x).scan = s.scan := rfl
@[simp] theorem State.setFilt_chans (s : State) (x : Filters) : (s.setFilt x).chans = s.chans := rfl
@[simp] theorem State.setFilt_arb (s : State) (x : Filters) : (s.setFilt x).arb = s.arb := rfl
@[simp] theorem State.setFilt_fan (s : State) (x : Filters) : (s.setFilt x).fan = s.fan := rfl
@[simp] theorem State.setFilt_comp (s : State) (x : Filters) : (s.setFilt x).comp = s.comp := rfl
@[simp] theorem State.setFilt_clean (s : State) (x : Filters) : (s.setFilt x).clean = s.clean := rfl
@[simp] theorem State.setFilt_dry (s : State) (x : Filters) : (s.setFilt x).dry = s.dry := rfl
@[simp] theorem State.setFilt_water (s : State) (x : Filters) : (s.setFilt x).water = s.water := rfl
@[simp] theorem State.setFilt_filt (s : State) (x : Filters) : (s.setFilt x).filt = x := rfl
@[simp] theorem State.setFilt_supplyLow (s : State) (x : Filters) : (s.setFilt x).supplyLow = s.supplyLow := rfl
@[simp] theorem State.setFilt_ev (s : State) (x : Filters) : (s.setFilt x).ev = s.ev := rfl
@[simp] theorem State.setFilt_serv (s : State) (x : Filters) : (s.setFilt x).serv = s.serv := rfl
@[simp] theorem State.setFilt_link (s : State) (x : Filters) : (s.setFilt x).link = s.link := rfl

/-! SupplyLow -/

@[simp] theorem State.setSupplyLow_pending (s : State) (x : Bool) : (s.setSupplyLow x).pending = s.pending := rfl
@[simp] theorem State.setSupplyLow_free (s : State) (x : Bool) : (s.setSupplyLow x).free = s.free := rfl
@[simp] theorem State.setSupplyLow_rst (s : State) (x : Bool) : (s.setSupplyLow x).rst = s.rst := rfl
@[simp] theorem State.setSupplyLow_time (s : State) (x : Bool) : (s.setSupplyLow x).time = s.time := rfl
@[simp] theorem State.setSupplyLow_setup (s : State) (x : Bool) : (s.setSupplyLow x).setup = s.setup := rfl
@[simp] theorem State.setSupplyLow_scan (s : State) (x : Bool) : (s.setSupplyLow x).scan = s.scan := rfl
@[simp] theorem State.setSupplyLow_chans (s : State) (x : Bool) : (s.setSupplyLow x).chans = s.chans := rfl
@[simp] theorem State.setSupplyLow_arb (s : State) (x : Bool) : (s.setSupplyLow x).arb = s.arb := rfl
@[simp] theorem State.setSupplyLow_fan (s : State) (x : Bool) : (s.setSupplyLow x).fan = s.fan := rfl
@[simp] theorem State.setSupplyLow_comp (s : State) (x : Bool) : (s.setSupplyLow x).comp = s.comp := rfl
@[simp] theorem State.setSupplyLow_clean (s : State) (x : Bool) : (s.setSupplyLow x).clean = s.clean := rfl
@[simp] theorem State.setSupplyLow_dry (s : State) (x : Bool) : (s.setSupplyLow x).dry = s.dry := rfl
@[simp] theorem State.setSupplyLow_water (s : State) (x : Bool) : (s.setSupplyLow x).water = s.water := rfl
@[simp] theorem State.setSupplyLow_filt (s : State) (x : Bool) : (s.setSupplyLow x).filt = s.filt := rfl
@[simp] theorem State.setSupplyLow_supplyLow (s : State) (x : Bool) : (s.setSupplyLow x).supplyLow = x := rfl
@[simp] theorem State.setSupplyLow_ev (s : State) (x : Bool) : (s.setSupplyLow x).ev = s.ev := rfl
@[simp] theorem State.setSupplyLow_serv (s : State) (x : Bool) : (s.setSupplyLow x).serv = s.serv := rfl
@[simp] theorem State.setSupplyLow_link (s : State) (x : Bool) : (s.setSupplyLow x).link = s.link := rfl

/-! Ev -/

@[simp] theorem State.setEv_pending (s : State) (x : Events) : (s.setEv x).pending = s.pending := rfl
@[simp] theorem State.setEv_free (s : State) (x : Events) : (s.setEv x).free = s.free := rfl
@[simp] theorem State.setEv_rst (s : State) (x : Events) : (s.setEv x).rst = s.rst := rfl
@[simp] theorem State.setEv_time (s : State) (x : Events) : (s.setEv x).time = s.time := rfl
@[simp] theorem State.setEv_setup (s : State) (x : Events) : (s.setEv x).setup = s.setup := rfl
@[simp] theorem State.setEv_scan (s : State) (x : Events) : (s.setEv x).scan = s.scan := rfl
@[simp] theorem State.setEv_chans (s : State) (x : Events) : (s.setEv x).chans = s.chans := rfl
@[simp] theorem State.setEv_arb (s : State) (x : Events) : (s.setEv x).arb = s.arb := rfl
@[simp] theorem State.setEv_fan (s : State) (x : Events) : (s.setEv x).fan = s.fan := rfl
@[simp] theorem State.setEv_comp (s : State) (x : Events) : (s.setEv x).comp = s.comp := rfl
@[simp] theorem State.setEv_clean (s : State) (x : Events) : (s.setEv x).clean = s.clean := rfl
@[simp] theorem State.setEv_dry (s : State) (x : Events) : (s.setEv x).dry = s.dry := rfl
@[simp] theorem State.setEv_water (s : State) (x : Events) : (s.setEv x).water = s.water := rfl
@[simp] theorem State.setEv_filt (s : State) (x : Events) : (s.setEv x).filt = s.filt := rfl
@[simp] theorem State.setEv_supplyLow (s : State) (x : Events) : (s.setEv x).supplyLow = s.supplyLow := rfl
@[simp] theorem State.setEv_ev (s : State) (x : Events) : (s.setEv x).ev = x := rfl
@[simp] theorem State.setEv_serv (s : State) (x : Events) : (s.setEv x).serv = s.serv := rfl
@[simp] theorem State.setEv_link (s : State) (x : Events) : (s.setEv x).link = s.link := rfl

/-! Serv -/

@[simp] theorem State.setServ_pending (s : State) (x : Service) : (s.setServ x).pending = s.pending := rfl
@[simp] theorem State.setServ_free (s : State) (x : Service) : (s.setServ x).free = s.free := rfl
@[simp] theorem State.setServ_rst (s : State) (x : Service) : (s.setServ x).rst = s.rst := rfl
@[simp] theorem State.setServ_time (s : State) (x : Service) : (s.setServ x).time = s.time := rfl
@[simp] theorem State.setServ_setup (s : State) (x : Service) : (s.setServ x).setup = s.setup := rfl
@[simp] theorem State.setServ_scan (s : State) (x : Service) : (s.setServ x).scan = s.scan := rfl
@[simp] theorem State.setServ_chans (s : State) (x : Service) : (s.setServ x).chans = s.chans := rfl
@[simp] theorem State.setServ_arb (s : State) (x : Service) : (s.setServ x).arb = s.arb := rfl
@[simp] theorem State.setServ_fan (s : State) (x : Service) : (s.setServ x).fan = s.fan := rfl
@[simp] theorem State.setServ_comp (s : State) (x : Service) : (s.setServ x).comp = s.comp := rfl
@[simp] theorem State.setServ_clean (s : State) (x : Service) : (s.setServ x).clean = s.clean := rfl
@[simp] theorem State.setServ_dry (s : State) (x : Service) : (s.setServ x).dry = s.dry := rfl
@[simp] theorem State.setServ_water (s : State) (x : Service) : (s.setServ x).water = s.water := rfl
@[simp] theorem State.setServ_filt (s : State) (x : Service) : (s.setServ x).filt = s.filt := rfl
@[simp] theorem State.setServ_supplyLow (s : State) (x : Service) : (s.setServ x).supplyLow = s.supplyLow := rfl
@[simp] theorem State.setServ_ev (s : State) (x : Service) : (s.setServ x).ev = s.ev := rfl
@[simp] theorem State.setServ_serv (s : State) (x : Service) : (s.setServ x).serv = x := rfl
@[simp] theorem State.setServ_link (s : State) (x : Service) : (s.setServ x).link = s.link := rfl

/-! Link -/

@[simp] theorem State.setLink_pending (s : State) (x : Link) : (s.setLink x).pending = s.pending := rfl
@[simp] theorem State.setLink_free (s : State) (x : Link) : (s.setLink x).free = s.free := rfl
@[simp] theorem State.setLink_rst (s : State) (x : Link) : (s.setLink x).rst = s.rst := rfl
@[simp] theorem State.setLink_time (s : State) (x : Link) : (s.setLink x).time = s.time := rfl
@[simp] theorem State.setLink_setup (s : State) (x : Link) : (s.setLink x).setup = s.setup := rfl
@[simp] theorem State.setLink_scan (s : State) (x : Link) : (s.setLink x).scan = s.scan := rfl
@[simp] theorem State.setLink_chans (s : State) (x : Link) : (s.setLink x).chans = s.chans := rfl
@[simp] theorem State.setLink_arb (s : State) (x : Link) : (s.setLink x).arb = s.arb := rfl
@[simp] theorem State.setLink_fan (s : State) (x : Link) : (s.setLink x).fan = s.fan := rfl
@[simp] theorem State.setLink_comp (s : State) (x : Link) : (s.setLink x).comp = s.comp := rfl
@[simp] theorem State.setLink_clean (s : State) (x : Link) : (s.setLink x).clean = s.clean := rfl
@[simp] theorem State.setLink_dry (s : State) (x : Link) : (s.setLink x).dry = s.dry := rfl
@[simp] theorem State.setLink_water (s : State) (x : Link) : (s.setLink x).water = s.water := rfl
@[simp] theorem State.setLink_filt (s : State) (x : Link) : (s.setLink x).filt = s.filt := rfl
@[simp] theorem State.setLink_supplyLow (s : State) (x : Link) : (s.setLink x).supplyLow = s.supplyLow := rfl
@[simp] theorem State.setLink_ev (s : State) (x : Link) : (s.setLink x).ev = s.ev := rfl
@[simp] theorem State.setLink_serv (s : State) (x : Link) : (s.setLink x).serv = s.serv := rfl
@[simp] theorem State.setLink_link (s : State) (x : Link) : (s.setLink x).link = x := rfl

end Sys2Proof.Machine
end

