-- ==== Sys2Proof/Laws/Moves.lean ====
section
/-! SUPPORT. Said once what a command can do to the parts of the state that the invariants speak of: the parts stand in `Core`, and every
change of them is a sequence of the moves below. -/

namespace Sys2Proof.Machine

/-- The parts of the state that the invariants speak of. -/
structure Core where
  pending : List Instr
  claims : List Claim
  list : List EventEntry
  chans : PerChannel Chan
  pumpState : PumpState
  pumpOn : Bool
  row : Row
  check : CheckState
  on : Bool
  level : DryLevel
  phase : Phase
  holdSet : List HoldCause
  deferred : List HoldCause
  step : Option DefrostStep
  slot1 : Bool
  slot2 : Option ContextKind
  offTime : Nat
  uptime : Nat

/-- Those parts of a state. -/
def State.core (s : State) : Core :=
  { pending := s.pending, claims := s.scan.claims, list := s.ev.list, chans := s.chans, pumpState := s.water.pump.state, pumpOn := s.water.pumpOn,
    row := s.arb.filter, check := s.filt.check.state, on := s.comp.on, level := s.dry.level, phase := s.dry.phase,
    holdSet := s.dry.holdSet, deferred := s.dry.deferred, step := s.dry.step,
    slot1 := s.dry.slot1.isSome, slot2 := s.dry.slot2.map Context.kind, offTime := s.dry.offTime, uptime := s.time.uptime }

/-- A check state in which a check is under way (R142). -/
def CheckState.busy (c : CheckState) : Prop := c = .waiting ∨ c = .sampling

/-- COMP_ON is requested in the phase (R80). -/
def Phase.driving (p : Phase) : Prop := p = .starting ∨ p = .running

/-- Step STOP of a defrost. -/
def Core.inStop (c : Core) : Prop := c.level = .defrost ∧ c.step = some .stop

/-- One change of the core, with what is known where it happens. -/
inductive Core.Move : Core → Core → Prop
  /-- An emphasis claim is taken. -/
  | take (c : Core) (who : Claimant) (ch : Channel) : Core.Move c { c with claims := takeClaimIn who ch c.claims }
  /-- An emphasis claim is released. -/
  | release (c : Core) (who : Claimant) : Core.Move c { c with claims := releaseClaimIn who c.claims }
  /-- An occurrence is latched. -/
  | latch (c : Core) (id : Nat) (edge : Edge) : Core.Move c { c with list := latchIn id edge none c.list }
  /-- Entries of the pending list change places. -/
  | order (c : Core) (l : List EventEntry) (perm : l.Perm c.list) : Core.Move c { c with list := l }
  /-- The oldest entries are read. -/
  | read (c : Core) : Core.Move c { c with list := c.list.drop 24 }
  /-- A channel record changes. -/
  | chan (c : Core) (ch : Channel) (r : Chan) (sound : (c.chans.get ch).Sound → r.Sound) :
      Core.Move c { c with chans := c.chans.set ch r }
  /-- A pump run starts. -/
  | pumpStart (c : Core) : Core.Move c { c with pumpState := .running, pumpOn := true }
  /-- A pump run ends. -/
  | pumpEnd (c : Core) : Core.Move c { c with pumpState := .resting, pumpOn := false }
  /-- The rest is over. -/
  | pumpIdle (c : Core) (was : c.pumpState = .resting) : Core.Move c { c with pumpState := .idle }
  /-- A check starts. -/
  | checkStart (c : Core) (r : Row) (was : c.on = false) (is : r.active = true ∧ r.kind = .exactly) :
      Core.Move c { c with row := r, check := .waiting }
  /-- A check ends. -/
  | checkEnd (c : Core) (x : CheckState) (is : ¬ x.busy) :
      Core.Move c { c with row := { c.row with active := false }, check := x }
  /-- A check's state changes with the check under way before and after, or neither. -/
  | check (c : Core) (x : CheckState) (same : c.check.busy ↔ x.busy) : Core.Move c { c with check := x }
  /-- The FILTER row is released with no check under way. -/
  | rowOff (c : Core) (was : ¬ c.check.busy) : Core.Move c { c with row := { c.row with active := false } }
  /-- COMP_ON goes off to LOCKOUT or STOPPING. -/
  | stop (c : Core) (x : Phase) (was : c.level = .normal ∧ c.phase.driving) (is : x = .lockout ∨ x = .stopping) :
      Core.Move c { c with on := false, phase := x, offTime := c.uptime }
  /-- COMP_ON goes off where no phase requests it. -/
  | drop (c : Core) (was : ¬ (c.level = .normal ∧ c.phase.driving)) : Core.Move c { c with on := false }
  /-- COMP_ON goes on. -/
  | start (c : Core) (was : c.level = .normal ∧ c.phase = .idle) (free : ¬ c.check.busy) : Core.Move c { c with on := true, phase := .starting }
  /-- A start finds the fan not running. -/
  | startFails (c : Core) (was : c.level = .normal ∧ c.phase = .idle) :
      Core.Move c { c with on := false, phase := .lockout, offTime := c.uptime }
  /-- A start is confirmed. -/
  | confirm (c : Core) (was : c.level = .normal ∧ c.phase = .starting) : Core.Move c { c with phase := .running }
  /-- The run-on ends, with COMP_ON off. -/
  | lock (c : Core) (was : c.level = .normal ∧ c.phase = .stopping) : Core.Move c { c with phase := .lockout }
  /-- The lockout ends. -/
  | unlock (c : Core) (was : c.level = .normal ∧ c.phase = .lockout ∧ c.offTime + 181 ≤ c.uptime) :
      Core.Move c { c with phase := .idle }
  /-- A hold is entered from level 0. -/
  | hold (c : Core) (set : List HoldCause) (off : Nat) (kind : ContextKind) (was : c.level ≠ .defrost ∧ c.holdSet = [])
      (is : set ≠ [] ∧ kind ≠ .defrost) :
      Core.Move c { c with
        level := .hold, slot2 := some kind, holdSet := set, offTime := off, phase := .lockout,
        on := if c.phase = .starting ∨ c.phase = .running then false else c.on }
  /-- A hold is entered from step MELT. -/
  | holdMelt (c : Core) (set : List HoldCause) (was : c.level = .defrost ∧ ¬ c.inStop) (is : set ≠ []) :
      Core.Move c { c with level := .hold, slot2 := some .defrost, holdSet := set, step := none }
  /-- A further cause is raised. -/
  | more (c : Core) (x : HoldCause) (was : c.holdSet ≠ []) : Core.Move c { c with holdSet := insertCause x c.holdSet }
  /-- A cause is cleared, and others remain or nothing was held. -/
  | fewer (c : Core) (x : HoldCause)
      (is : ¬ (x ∈ c.holdSet ∧ eraseCause x c.holdSet = [] ∧ c.level = .hold)) :
      Core.Move c { c with holdSet := eraseCause x c.holdSet }
  /-- Causes are deferred. -/
  | defer (c : Core) (set : List HoldCause) (was : c.inStop) : Core.Move c { c with deferred := set }
  /-- A hold ends at level 0. -/
  | release0 (c : Core) (x : Phase) (off : Nat) (was : c.level = .hold)
      (kind : c.slot2 ≠ some .defrost) (is : x = .lockout ∨ (x = .idle ∧ off + 181 ≤ c.uptime)) :
      Core.Move c { c with level := .normal, slot2 := none, holdSet := [], phase := x, offTime := off }
  /-- A hold ends at level 1. -/
  | release1 (c : Core) (off : Nat) (was : c.level = .hold) (kind : c.slot2 = some .defrost) :
      Core.Move c { c with level := .defrost, slot2 := none, holdSet := [], step := some .melt, offTime := off }
  /-- A defrost is entered. -/
  | defrost (c : Core) (was : c.level = .normal ∧ c.phase = .running) :
      Core.Move c { c with on := false, slot1 := true, level := .defrost, phase := .lockout, step := some .stop, offTime := c.uptime }
  /-- Step STOP ends with no deferred cause. -/
  | melt (c : Core) (was : c.inStop) (empty : c.deferred = []) : Core.Move c { c with step := some .melt, holdSet := [] }
  /-- Step STOP ends with deferred causes. -/
  | meltHeld (c : Core) (was : c.inStop) (full : c.deferred ≠ []) :
      Core.Move c { c with level := .hold, slot2 := some .defrost, step := none, holdSet := c.deferred, deferred := [] }
  /-- A defrost ends. -/
  | defrostEnd (c : Core) (off : Nat) (was : c.level = .defrost ∧ c.step = some .melt) :
      Core.Move c { c with level := .normal, slot1 := false, phase := .lockout, step := none, offTime := off }
  /-- A reset empties the pending list, or leaves one entry in it. -/
  | entries (c : Core) (l : List EventEntry) (one : l = [] ∨ ∃ e : EventEntry, l = [e] ∧ e.count = 1) : Core.Move c { c with list := l }
  /-- A reset of the other parts. -/
  | reset (c : Core) (l : List EventEntry) (chans : PerChannel Chan) (x : CheckState) (off up : Nat)
      (list : l = c.list ∨ ∃ e : EventEntry, l = [e] ∧ e.count = 1)
      (sound : ∀ ch, (c.chans.get ch).Sound → (chans.get ch).Sound) (is : ¬ x.busy) :
      Core.Move c { pending := c.pending, claims := [], list := l, chans := chans, pumpState := .idle, pumpOn := false,
                    row := Row.atReset, check := x, on := false, level := .normal, phase := .lockout, holdSet := [], deferred := [],
                    step := none, slot1 := false, slot2 := none, offTime := off, uptime := up }

/-- What a sequence of moves can do. -/
abbrev Core.Moves : Core → Core → Prop := Relation.ReflTransGen Core.Move

/-- The core of the second state comes from that of the first by moves. -/
def Moves (s t : State) : Prop := Core.Moves s.core t.core

/-- What every move keeps, every sequence of moves keeps. -/
theorem Core.Moves.keep {P : Core → Prop} (h : ∀ c d, Core.Move c d → P c → P d) {c d : Core} (m : Core.Moves c d) (p : P c) : P d := by
  induction m with
  | refl => exact p
  | tail _ m ih => exact h _ _ m ih

theorem Moves.keep {P : Core → Prop} (h : ∀ c d, Core.Move c d → P c → P d) {s t : State} (m : Moves s t) (p : P s.core) :
    P t.core := Core.Moves.keep h m p

theorem Moves.refl (s : State) : Moves s s := Relation.ReflTransGen.refl

theorem Moves.of_eq {s t : State} (h : t.core = s.core) : Moves s t := by unfold Moves; rw [h]

theorem Moves.trans {s t u : State} (h : Moves s t) (k : Moves t u) : Moves s u := Relation.ReflTransGen.trans h k

theorem Moves.one {s t : State} {c : Core} (h : Core.Move s.core c) (e : t.core = c) : Moves s t := by
  subst e; exact Relation.ReflTransGen.single h

theorem Moves.cond {p : Prop} [Decidable p] {s a b : State} (ha : p → Moves s a) (hb : ¬ p → Moves s b) :
    Moves s (if p then a else b) := by
  split
  · exact ha ‹_›
  · exact hb ‹_›

/-- A state with the same core may stand in front. -/
theorem Moves.from_eq {s s' t : State} (h : Moves s' t) (e : s'.core = s.core) : Moves s t := by
  unfold Moves at *; rw [← e]; exact h

/-- A state with the same core may stand behind. -/
theorem Moves.to_eq {s t t' : State} (h : Moves s t) (e : t'.core = t.core) : Moves s t' := by
  unfold Moves at *; rw [e]; exact h

end Sys2Proof.Machine
end

