-- ==== Sys2Proof/Laws/DryMoves.lean ====
section
/-! SUPPORT. The moves of the shared operations, the drying cycle, the holds and the defrosts. -/

namespace Sys2Proof.Machine

/-! Shared operations -/

theorem takeClaim_moves (who : Claimant) (c : Channel) (s : State) : Moves s (takeClaim who c s) := .one (.take _ who c) rfl

theorem releaseClaim_moves (who : Claimant) (s : State) : Moves s (releaseClaim who s) := .one (.release _ who) rfl

theorem oneShot_moves (id : Nat) (s : State) : Moves s (oneShot id s) := by
  unfold oneShot; split
  · exact .one (.latch _ id .once) rfl
  · exact .refl s

theorem latchEdges_moves (c : Core) (id : Nat) (news olds rs fs : List Bool) (l : List EventEntry) :
    Core.Moves { c with list := l } { c with list := latchEdges id news olds rs fs l } := by
  fun_induction latchEdges id news olds rs fs l with
  | case1 id new news old olds r rs f fs l ih =>
    refine .trans ?_ ih
    split
    · exact .single (.latch { c with list := l } id .rise)
    · split
      · exact .single (.latch { c with list := l } id .fall)
      · exact .refl
  | case2 => exact .refl

theorem publish_moves (s : State) : Moves s (publish s) :=
  latchEdges_moves s.core 0 (conditions s) s.ev.stored s.ev.riseEn s.ev.fallEn s.ev.list

theorem endServiceRun_moves (s : State) : Moves s (endServiceRun s) := (oneShot_moves 26 _).from_eq rfl

/-! The drying cycle -/

theorem lockoutAfter_moves (r : StopReason) (s : State) (h : s.dry.level = .normal ∧ s.dry.phase.driving) :
    Moves s (toLockout (compOff r s)) := .one (.stop _ .lockout h (.inl rfl)) rfl

theorem enterStopping_moves (r : StopReason) (s : State) (h : s.dry.level = .normal ∧ s.dry.phase.driving) :
    Moves s (enterStopping r s) := .one (.stop _ .stopping h (.inr rfl)) rfl

theorem afterFailure_moves (s : State) :
    Moves s (if (oneShot 22 (publish s)).dry.disabled = true ∧ (oneShot 22 (publish s)).compressorRun = true then
      endServiceRun (oneShot 22 (publish s)) else oneShot 22 (publish s)) := by
  have h := (publish_moves s).trans (oneShot_moves 22 _)
  exact .cond (fun _ => h.trans (endServiceRun_moves _)) (fun _ => h)

theorem compFailure_moves (r : FailReason) (s : State) (h : s.dry.level = .normal ∧ s.dry.phase.driving) :
    Moves s (compFailure r s) := by
  refine Moves.trans ?_ (afterFailure_moves _)
  exact .one (.stop _ .lockout h (.inl rfl)) rfl

theorem takeDropout_moves (s : State) : Moves s (takeDropout s) := by
  unfold takeDropout
  exact .cond (fun h => lockoutAfter_moves .interlock s h) (fun _ => .refl s)

theorem enterStarting_moves (s : State) (h : s.idleNormal) (free : ¬ s.checkBusy) : Moves s (enterStarting s) := by
  unfold enterStarting; dsimp only
  refine .cond (fun _ => .one (.start _ h free) rfl) (fun _ => ?_)
  unfold takeDropout
  rw [if_pos ⟨h.1, .inl rfl⟩]
  exact .one (.startFails _ h) rfl

theorem judgeStart_moves (s : State) (h : s.dry.level = .normal ∧ s.dry.phase = .starting) : Moves s (judgeStart s) := by
  unfold judgeStart; dsimp only
  split
  · refine .from_eq (compFailure_moves .noCurrent _ ?_) rfl
    exact ⟨h.1, .inl h.2⟩
  · split
    · refine .from_eq (compFailure_moves .overcurrent _ ?_) rfl
      exact ⟨h.1, .inl h.2⟩
    · exact .one (.confirm _ h) rfl

theorem testWeak_moves (s : State) : Moves s (testWeak s) := by
  unfold testWeak
  exact .cond (fun _ => .of_eq rfl) (fun _ => .refl s)

theorem followRise_moves (v : Int) (s : State) : Moves s (followRise v s) := by
  unfold followRise; split
  · exact .of_eq rfl
  · exact .cond (fun _ => .of_eq rfl) (fun _ => .cond (fun _ => .of_eq rfl) (fun _ => .refl s))

theorem endRunOn_moves (s : State) (h : s.dry.level = .normal ∧ s.dry.phase = .stopping) : Moves s (endRunOn s) :=
  .one (.lock _ h) rfl

theorem storeMode_moves (m : DryMode) (p : Nat) (s : State) : Moves s (storeMode m p s) := by
  unfold storeMode; dsimp only
  exact .cond (fun _ => .of_eq rfl) (fun _ => .of_eq rfl)

theorem markContext_moves (m : Bool) (s : State) : Moves s (markContext m s) := by
  unfold markContext; dsimp only
  split
  · exact .refl s
  · exact .of_eq (by simp [State.core])
  · exact .cond (fun _ => .of_eq (by simp [State.core])) (fun _ => .of_eq (by simp [State.core, Function.comp_def]))

theorem modeOffCycle_moves (s : State) (h : s.dry.level = .normal) : Moves s (modeOffCycle s) := by
  unfold modeOffCycle; split
  · exact .cond (fun _ => .of_eq rfl) (fun _ => .of_eq rfl)
  · next hp => exact lockoutAfter_moves .modeOff s ⟨h, .inl hp⟩
  · next hp => exact enterStopping_moves .modeOff s ⟨h, .inr hp⟩
  · exact .refl s
  · exact .refl s

theorem targetLossCycle_moves (s : State) : Moves s (targetLossCycle s) := by
  unfold targetLossCycle
  exact .cond (fun _ => .cond (fun _ => .of_eq rfl) (fun _ => .of_eq rfl)) (fun _ => .refl s)

theorem applyDryMode_moves (m : DryMode) (p : Nat) (s : State) : Moves s (applyDryMode m p s) := by
  unfold applyDryMode
  refine .cond (fun _ => markContext_moves _ s) (fun _ => ?_)
  dsimp only
  refine (storeMode_moves m p s).trans ?_
  split
  · next h =>
    exact .cond (fun _ => .refl _)
      (fun _ => .cond (fun _ => modeOffCycle_moves _ h) (fun _ => .cond (fun _ => targetLossCycle_moves _) (fun _ => .refl _)))
  · exact markContext_moves _ _
  · exact markContext_moves _ _

/-! Holds and defrosts -/

/-- The context that a hold saves from level 0 is no DEFROST context. -/
theorem contextFor_kind (p : Phase) (d : Drying) : (contextFor p d).kind ≠ .defrost := by
  cases p <;> simp [contextFor, idleContext, runContext]

/-- A hold is entered with a new, non-empty set, unless drying is in step STOP. -/
theorem enterHold_moves (s : State) (set : List HoldCause) (was : s.dry.holdSet = []) (is : set ≠ []) (hs : ¬ s.inStop) :
    Moves s (enterHold (s.setDry { s.dry with holdSet := set })) := by
  unfold enterHold
  refine .cond (fun h => ?_) (fun h => ?_)
  · refine Moves.trans (t := s.setDry { s.dry with
      level := .hold, slot2 := some (defrostContext s.dry), holdSet := set, step := none })
      (.one (.holdMelt _ set ⟨h, hs⟩ is) rfl) ?_
    exact (releaseClaim_moves .dry _).from_eq rfl
  · unfold holdFromNormal; dsimp only
    split
    · next hp =>
      refine .one (.hold _ set s.time.uptime _ ⟨h, was⟩ ⟨is, contextFor_kind s.dry.phase
        (compOff .hold (s.setDry { s.dry with holdSet := set })).dry⟩) ?_
      have hp : s.dry.phase = .starting ∨ s.dry.phase = .running := hp
      simp [State.core, hp, compOff, releaseRow, Arbiter.setRow]
    · next hp =>
      refine .one (.hold _ set s.dry.offTime _ ⟨h, was⟩ ⟨is, contextFor_kind s.dry.phase { s.dry with holdSet := set }⟩) ?_
      have hp : ¬ (s.dry.phase = .starting ∨ s.dry.phase = .running) := hp
      simp [State.core, hp, releaseRow, Arbiter.setRow]

theorem raiseCause_moves (c : HoldCause) (s : State) : Moves s (raiseCause c s) := by
  unfold raiseCause
  exact .cond (fun h => .one (.defer _ _ h) rfl) (fun h => .cond (fun h' => enterHold_moves s [c] h' (by simp) h)
    (fun h' => .one (.more _ c h') rfl))

theorem endHold_moves (s : State) (h : s.dry.level = .hold) : Moves s (endHold (s.setDry { s.dry with holdSet := [] })) := by
  unfold endHold; split
  · next h2 =>
    have h2 : s.dry.slot2 = none := h2
    refine .one (.release0 _ .lockout s.dry.offTime h (by simp [State.core, h2]) (.inl rfl)) ?_
    simp [State.core, h2]
  · next c h2 =>
    have h2 : s.dry.slot2 = some c := h2
    split
    · next hk =>
      dsimp only
      split
      · next hi => exact .one (.release0 _ .idle c.offTime h (by simp [State.core, h2, hk]) (.inr ⟨rfl, hi.2⟩)) rfl
      · exact .one (.release0 _ .lockout c.offTime h (by simp [State.core, h2, hk]) (.inl rfl)) rfl
    · next hk => exact .one (.release0 _ .lockout c.offTime h (by simp [State.core, h2, hk]) (.inl rfl)) rfl
    · next hk =>
      refine Moves.trans (t := s.setDry { s.dry with
        level := .defrost, slot2 := none, holdSet := [], step := some .melt, offTime := c.offTime })
        (.one (.release1 _ c.offTime h (by simp [State.core, h2, hk])) rfl) ?_
      exact (takeClaim_moves .dry .coilT _).from_eq rfl

theorem clearCause_moves (c : HoldCause) (s : State) : Moves s (clearCause c s) := by
  unfold clearCause
  refine .cond (fun h => .one (.defer _ _ h) rfl) (fun _ => ?_)
  dsimp only
  refine .cond (fun h => ?_) (fun h => .one (.fewer _ c h) rfl)
  rw [h.2.1]
  exact endHold_moves s h.2.2

theorem enterDefrost_moves (s : State) (h : s.runningNormal) : Moves s (enterDefrost s) := by
  refine Moves.trans (t := (compOff .defrost s).setDry { (compOff .defrost s).dry with
    slot1 := some { runContext .running s.dry with offTime := s.time.uptime }, phase := .lockout, level := .defrost, step := some .stop })
    (.one (.defrost _ h) rfl) ?_
  exact (takeClaim_moves .dry .coilT _).from_eq rfl

theorem endStop_moves (s : State) (h : s.inStop) : Moves s (endStop s) := by
  unfold endStop; dsimp only
  refine .cond (fun h0 => ?_) (fun h0 => ?_)
  · have h0 : s.dry.deferred = [] := h0
    refine .one (.melt _ h h0) ?_
    show { s.core with step := some .melt, holdSet := s.dry.deferred, deferred := [] } = { s.core with step := some .melt, holdSet := [] }
    simp [State.core, h0]
  · unfold enterHold
    refine .cond (fun _ => ?_) (fun hn => absurd h.1 hn)
    refine Moves.trans (t := s.setDry { s.dry with
      level := .hold, slot2 := some (defrostContext s.dry), step := none, holdSet := s.dry.deferred, deferred := [] })
      (.one (.meltHeld _ h h0) rfl) ?_
    exact (releaseClaim_moves .dry _).from_eq rfl

theorem endDefrost_moves (r : DefrostReason) (s : State) (h : s.inMelt) : Moves s (endDefrost r s) := by
  refine Moves.trans (t := s.setDry { s.dry with
    level := .normal, slot1 := none, phase := .lockout, step := none, offTime := s.dry.slot1Off })
    (.one (.defrostEnd _ s.dry.slot1Off h) rfl) ?_
  refine Moves.trans (releaseClaim_moves .dry _) ?_
  exact .from_eq ((publish_moves _).trans (oneShot_moves 23 _)) rfl

end Sys2Proof.Machine
end

