-- ==== Sys2Proof/Laws/BlockMoves.lean ====
section
/-! SUPPORT. The moves of the other blocks: Filter Accounts, the airflow side, water, cleaning, the channel records, the Scanner and the
Service Unit. -/

namespace Sys2Proof.Machine

/-! Filter Accounts -/

theorem busy_iff (s : State) : s.checkBusy ↔ s.filt.check.state.busy := Iff.rfl

theorem testInterval_moves (s : State) : Moves s (testInterval s) := by
  unfold testInterval; dsimp only
  refine .cond (fun h => .one (.check _ .due ?_) rfl) (fun _ => .refl s)
  simp [State.core, CheckState.busy, h.2.1]

theorem countCheckSecond_moves (s : State) : Moves s (countCheckSecond s) := by
  unfold countCheckSecond
  refine .cond (fun _ => .refl s) (fun _ => ?_)
  exact .from_eq (testInterval_moves _) rfl

theorem chargeAir_moves (f : Nat) (s : State) : Moves s (chargeAir f s) := by
  unfold chargeAir
  refine .cond (fun _ => ?_) (fun _ => .refl s)
  exact .from_eq (countCheckSecond_moves _) rfl

theorem closes_idle (r : CheckResult) : ¬ (if r.closes then CheckState.idle else .due).busy := by
  cases r <;> simp [CheckResult.closes, CheckState.busy]

theorem endCheck_moves (r : CheckResult) (s : State) : Moves s (endCheck r s) := by
  unfold endCheck; dsimp only
  refine Moves.trans (releaseClaim_moves .filter s) ?_
  refine Moves.trans ?_ ((publish_moves _).trans (oneShot_moves 25 _))
  exact .one (.checkEnd _ _ (closes_idle r)) rfl

theorem preemptCheck_moves (s : State) : Moves s (preemptCheck s) := by
  unfold preemptCheck
  exact .cond (fun _ => endCheck_moves .preempted s) (fun _ => .refl s)

theorem abortFilter_moves (s : State) : Moves s (abortFilter s) := by
  unfold abortFilter preemptCheck
  refine .cond (fun _ => .cond (fun _ => ?_) (fun h => .one (.rowOff _ h) rfl)) (fun _ => .refl s)
  unfold endCheck; dsimp only
  refine Moves.trans (releaseClaim_moves .filter s) ?_
  refine Moves.trans ?_ ((publish_moves _).trans (oneShot_moves 25 _))
  exact .one (.checkEnd _ _ (closes_idle .preempted)) rfl

theorem startCheck_moves (s : State) (off : s.comp.on = false) : Moves s (startCheck s) := by
  refine Moves.trans (takeClaim_moves .filter .filterDp s) ?_
  exact .one (.checkStart _ { active := true, kind := .exactly, level := s.setup.refLevel, takenAt := s.time.uptime } off ⟨rfl, rfl⟩) rfl

theorem countSample_moves (v : Int) (s : State) : Moves s (countSample v s) := by
  unfold countSample; dsimp only
  refine .cond (fun _ => .of_eq rfl) (fun _ => ?_)
  exact .from_eq (endCheck_moves _ _) rfl

theorem fitCheck_moves (b : Bool) (s : State) : Moves s (fitCheck b s) := by
  unfold fitCheck; dsimp only
  refine .cond (fun _ => .of_eq rfl) (fun _ => .cond (fun h => .one (.check _ .due ?_) rfl)
    (fun _ => .cond (fun _ => .of_eq rfl) (fun _ => .of_eq rfl)))
  simp [State.core, CheckState.busy, h]

theorem removeCheck_moves (s : State) : Moves s (removeCheck s) := by
  unfold removeCheck; dsimp only
  refine .cond (fun _ => ?_) (fun _ => .cond (fun h => .one (.check _ .idle ?_) rfl) (fun _ => .of_eq rfl))
  · exact .from_eq (endCheck_moves _ _) rfl
  · have h : s.filt.check.state = .due := h
    simp [State.core, CheckState.busy, h]

theorem testCheckStart_moves (s : State) : Moves s (testCheckStart s) :=
  .cond (fun h => startCheck_moves s h.2.2.2.2.2.1) (fun _ => .refl s)

theorem requestCheck_moves (s : State) : Moves s (requestCheck s) := by
  unfold requestCheck; dsimp only
  refine Moves.trans ?_ (testCheckStart_moves _)
  by_cases h : s.filt.check.state = .idle
  · rw [if_pos h]
    refine .one (.check _ .due ?_) rfl
    simp [State.core, CheckState.busy, h]
  · rw [if_neg h]; exact .of_eq rfl

/-! The airflow side -/

theorem updateGrant_moves (s : State) : Moves s (updateGrant s) := by
  unfold updateGrant; dsimp only
  exact .cond (fun _ => .refl s) (fun _ => .of_eq rfl)

theorem interlock_moves (s : State) : Moves s (interlock s) := by
  unfold interlock takeDropout
  refine .cond (fun _ => .cond (fun h => ?_) (fun h => .one (.drop _ h) rfl)) (fun _ => .refl s)
  exact .one (.stop _ .lockout h (.inl rfl)) rfl

theorem updateShort_moves (s : State) : Moves s (updateShort s) := by
  unfold updateShort; dsimp only
  refine .cond (fun _ => .refl s) (fun _ => ?_)
  refine Moves.trans (t := publish (s.setArb { s.arb with airflowShort := s.shortNow })) (.from_eq (publish_moves _) rfl) ?_
  exact .cond (fun h => enterStopping_moves _ _ h.2) (fun _ => .refl _)

theorem airflow_moves (s : State) : Moves s (airflow s) :=
  (((abortFilter_moves s).trans (updateGrant_moves _)).trans (interlock_moves _)).trans (updateShort_moves _)

theorem clearFan_moves (s : State) : Moves s (clearFan s) := by
  unfold clearFan; dsimp only
  exact .cond (fun _ => .of_eq rfl) (fun _ => .of_eq rfl)

theorem handOverVolume_moves (s : State) : Moves s (handOverVolume s) := by
  unfold handOverVolume
  exact .cond (fun _ => chargeAir_moves _ s) (fun _ => .refl s)

theorem fanTick_moves (s : State) : Moves s (fanTick s) := by
  unfold fanTick; dsimp only
  refine .cond (fun _ => .of_eq rfl) (fun _ => .cond (fun _ => .of_eq rfl) (fun _ => ?_))
  exact .from_eq (handOverVolume_moves _) rfl

/-! Water -/

theorem tankSync_moves (s : State) : Moves s (tankSync s) := .of_eq rfl

theorem drainSync_moves (s : State) : Moves s (drainSync s) := by
  unfold drainSync
  exact .cond (fun _ => .of_eq rfl) fun _ => .cond (fun _ => .of_eq rfl) fun _ => .cond (fun _ => .of_eq rfl) fun _ => .refl s

theorem endPump_moves (r : PumpResult) (s : State) : Moves s (endPump r s) := by
  unfold endPump; dsimp only
  have h : Moves s (oneShot 24 (publish (drainSync (tankSync
      (releaseClaim .water (s.setWater (s.water.endRun r s.time.uptime s.waterMoved))))))) := by
    refine Moves.trans ?_ (((((releaseClaim_moves .water _).trans (tankSync_moves _)).trans (drainSync_moves _)).trans
      (publish_moves _)).trans (oneShot_moves 24 _))
    exact .one (.pumpEnd _) rfl
  refine h.trans ?_
  split
  · exact .cond (fun _ => endServiceRun_moves _) (fun _ => .refl _)
  · exact .refl _

theorem startPump_moves (k : PumpKind) (s : State) : Moves s (startPump k s) := by
  refine Moves.trans ?_ (takeClaim_moves .water .tankLvl _)
  exact .one (.pumpStart _) rfl

theorem autoPump_moves (s : State) : Moves s (autoPump s) := by
  unfold autoPump; split
  · exact .cond (fun _ => startPump_moves _ s) (fun _ => .refl s)
  · exact .refl s

theorem endRest_moves (s : State) (h : s.water.pump.state = .resting) : Moves s (endRest s) := .one (.pumpIdle _ h) rfl

theorem pumpRested_state {s : State} (h : s.pumpRested = true) : s.water.pump.state = .resting := by
  simp only [State.pumpRested, Bool.and_eq_true, decide_eq_true_eq] at h
  exact h.1

theorem pumpTick_moves (s : State) : Moves s (pumpTick s) := by
  unfold pumpTick
  exact .cond (fun _ => endPump_moves _ s) fun _ => .cond (fun _ => endPump_moves _ s) fun _ =>
    .cond (fun _ => endPump_moves _ s) fun _ => .cond (fun _ => endPump_moves _ s) fun _ =>
    .cond (fun h => endRest_moves s (pumpRested_state h)) fun _ => .refl s

theorem waterLevel_moves (v : Int) (s : State) : Moves s (waterLevel v s) := by
  unfold waterLevel; dsimp only
  have h1 : ∀ u : State, Moves u (if u.pumpDone = true then endPump .done u else u) := fun u =>
    .cond (fun _ => endPump_moves .done u) (fun _ => .refl u)
  refine Moves.trans ?_ (h1 _)
  refine Moves.trans (t := if s.setup.optDrain ≠ .gravity ∧ s.water.tankIn.filtered = true then
    s.setWater { s.water with held := some v } else s) (.cond (fun _ => .of_eq rfl) (fun _ => .refl s)) ?_
  exact .cond (fun _ => .of_eq rfl) (fun _ => .refl _)

theorem countEmptying_moves (s : State) : Moves s (countEmptying s) := by
  unfold countEmptying; split <;> exact .of_eq rfl

theorem tankPulled_moves (s : State) : Moves s (tankPulled s) := by
  unfold tankPulled; dsimp only
  refine Moves.trans (t := if s.pumping then endPump .abortedTankOut s else s)
    (.cond (fun _ => endPump_moves _ s) (fun _ => .refl s)) ?_
  exact .cond (fun _ => .refl _) (fun _ => countEmptying_moves _)

theorem applyDrain_moves (d : Drain) (s : State) : Moves s (applyDrain d s) := by
  unfold applyDrain; dsimp only
  refine .cond (fun _ => .refl s) (fun _ => ?_)
  split <;> exact .of_eq rfl

/-! Cleaning -/

theorem placeClean_moves (b : Option Nat) (s : State) : Moves s (placeClean b s) := by
  unfold placeClean; dsimp only
  refine .cond (fun _ => .refl s) (fun _ => ?_)
  split
  · exact .of_eq rfl
  · exact .cond (fun _ => .of_eq rfl) (fun _ => .of_eq rfl)

theorem changeClean_moves (f : Cleaning → Cleaning) (s : State) : Moves s (changeClean f s) :=
  .from_eq (placeClean_moves _ _) rfl

theorem stepDown_moves (s : State) : Moves s (stepDown s) := by
  unfold stepDown; split
  · exact changeClean_moves _ s
  · exact .refl s

theorem carriedStepDown_moves (s : State) : Moves s (carriedStepDown s) := by
  unfold carriedStepDown; split
  · exact changeClean_moves _ s
  · exact .refl s

theorem cleanFallback_moves (s : State) : Moves s (cleanFallback s) := changeClean_moves _ s

theorem cleanTick_moves (s : State) : Moves s (cleanTick s) := by
  unfold cleanTick
  exact .cond (fun _ => stepDown_moves s) fun _ => .cond (fun _ => carriedStepDown_moves s) fun _ =>
    .cond (fun _ => cleanFallback_moves s) fun _ => .refl s

/-! Channel records -/

theorem restart_sound (st : ChanState) (c : Chan) (h : st ≠ .qualified) : (c.restart st).Sound := by
  simp [Chan.Sound, Chan.restart, h]

theorem pushWindow_length (w : List Int) (v : Int) (h : w.length ≤ 4) : (pushWindow w v).length ≤ 4 := by
  unfold pushWindow; dsimp only; split
  · simp; omega
  · simp at *; omega

theorem hardFault_sound (c : Chan) : c.hardFault.Sound := by simp [Chan.Sound, Chan.hardFault, Chan.restart]

theorem outOfRange_sound (c : Chan) : c.outOfRange.Sound := by
  unfold Chan.outOfRange; dsimp only
  split <;> split <;> simp [Chan.Sound, Chan.restart]

theorem jump_sound (smp : Sample) (c : Chan) : (c.jump smp).Sound := by
  unfold Chan.jump; dsimp only; split <;> simp [Chan.Sound]

theorem accept_sound (smp : Sample) (c : Chan) (h : c.Sound) (hs : c.state = .qualifying ∨ c.state = .qualified) :
    (c.accept smp).Sound := by
  have hw := pushWindow_length c.window smp.value h.2.1
  unfold Chan.accept; dsimp only
  generalize (if (c.markAccepted smp).run = (c.markAccepted smp).threshold then (c.markAccepted smp).run
    else (c.markAccepted smp).run + 1) = n
  split
  · exact ⟨by simp, hw, by simp⟩
  · next hn =>
    have hq : c.state = .qualifying := by
      rcases hs with hs | hs
      · exact hs
      · exact absurd (.inl hs) hn
    refine ⟨?_, hw, fun hne _ => absurd hq hne⟩
    have := h.1
    simp only [Chan.markAccepted, hq] at this ⊢
    exact this

theorem deliver_sound (ch : Channel) (smp : Sample) (c : Chan) (h : c.Sound) : (c.deliver ch smp).Sound := by
  unfold Chan.deliver; dsimp only
  split
  · next hs =>
    split
    · exact hardFault_sound _
    · split
      · exact outOfRange_sound _
      · split
        · exact jump_sound _ _
        · exact accept_sound _ _ h hs
  · exact h

theorem entered_sound (ch : Channel) (p : Bool) (c : Chan) (h : c.Sound) : (c.entered ch p).Sound := by
  unfold Chan.entered Chan.entryState; split
  · apply restart_sound; split
    · simp
    · split
      · simp
      · split <;> simp
  · exact h

theorem leave_sound (c : Chan) (h : c.Sound) : c.leave.Sound := by
  unfold Chan.leave; split
  · exact h
  · exact restart_sound _ _ (by simp)

theorem powerOn_sound (n : Nat) (m : Bool) (c : Chan) (h : c.Sound) : (c.powerOn n m).Sound := by
  unfold Chan.powerOn; dsimp only; split
  · exact restart_sound _ _ (by simp)
  · exact h

theorem powerOff_sound (c : Chan) (h : c.Sound) : c.powerOff.Sound := leave_sound c h

theorem warmedUp_sound (c : Chan) (h : c.Sound) : c.warmedUp.Sound := by
  unfold Chan.warmedUp; split
  · exact restart_sound _ _ (by simp)
  · exact h

theorem setThreshold_sound (n : Nat) (c : Chan) (h : c.Sound) : (c.setThreshold n).Sound := by
  unfold Chan.setThreshold; dsimp only
  split
  · next hs =>
    split
    · split
      · exact ⟨by simp, h.2.1, by simp⟩
      · exact ⟨h.1, h.2.1, fun h1 h2 => absurd hs (by simp [h1, h2])⟩
    · split
      · exact ⟨by simp, h.2.1, by simp⟩
      · exact h
  · exact h

theorem setLimit_sound (n : Nat) (c : Chan) (h : c.Sound) : (c.setLimit n).Sound := h

theorem clearFault_sound (ch : Channel) (p m : Bool) (c : Chan) (h : c.Sound) : (c.clearFault ch p m).Sound := by
  unfold Chan.clearFault Chan.entryState; dsimp only; split
  · apply restart_sound; split
    · split
      · simp
      · split
        · simp
        · split <;> simp
    · simp
  · exact h

theorem substitute_sound (b : Bool) (c : Chan) (h : c.Sound) : (c.substitute b).Sound := by
  unfold Chan.substitute; dsimp only; split
  · exact restart_sound _ _ (by simp)
  · exact h

theorem readRh_moves (old new : Chan) (s : State) : Moves s (readRh old new s) := by
  unfold readRh
  exact .cond (fun _ => .refl s) (fun _ => testWeak_moves s)

theorem readRoom_moves (old new : Chan) (s : State) : Moves s (readRoom old new s) := by
  unfold readRoom
  exact .cond (fun h => enterDefrost_moves s h.2.1) (fun _ => .refl s)

theorem readTank_moves (old new : Chan) (s : State) : Moves s (readTank old new s) := by
  have h : Moves s (if old.becomesLost new = true then loseHeld s else s) := .cond (fun _ => .of_eq rfl) (fun _ => .refl s)
  unfold readTank; dsimp only; split
  · exact (h.trans (followRise_moves _ _)).trans (waterLevel_moves _ _)
  · exact h

theorem readDp_moves (a : Bool) (new : Chan) (s : State) : Moves s (readDp a new s) := by
  unfold readDp
  refine .cond (fun _ => ?_) (fun _ => .refl s)
  split
  · exact countSample_moves _ s
  · exact .refl s

theorem readCurrent_moves (old new : Chan) (s : State) : Moves s (readCurrent old new s) := by
  unfold readCurrent; split
  · exact .cond (fun _ => .of_eq rfl) (fun _ => .refl s)
  · exact .refl s

theorem notify_moves (ch : Channel) (a : Bool) (old new : Chan) (s : State) : Moves s (notify ch a old new s) := by
  cases ch
  · exact readRh_moves old new s
  · exact readRoom_moves old new s
  · exact .refl s
  · exact readTank_moves old new s
  · exact readDp_moves a new s
  · exact changeClean_moves _ s
  · exact .refl s
  · exact readCurrent_moves old new s

theorem putChan_moves (ch : Channel) (r : Chan) (s : State) (h : (s.chan ch).Sound → r.Sound) : Moves s (putChan ch r s) :=
  .one (.chan _ ch r h) rfl

theorem changeChan_moves (ch : Channel) (f : Chan → Chan) (s : State) (h : (s.chan ch).Sound → (f (s.chan ch)).Sound) :
    Moves s (changeChan ch f s) := (putChan_moves ch _ s h).trans (notify_moves _ _ _ _ _)

theorem sampleChan_moves (ch : Channel) (smp : Sample) (s : State) : Moves s (sampleChan ch smp s) :=
  (putChan_moves ch _ s (deliver_sound ch smp _)).trans (notify_moves _ _ _ _ _)

theorem changeChans_moves (f : Channel → Chan → Chan) (h : ∀ ch c, c.Sound → (f ch c).Sound) (cs : List Channel) :
    ∀ s : State, Moves s (changeChans f cs s) := by
  induction cs with
  | nil => exact .refl
  | cons c cs ih => intro s; exact (changeChan_moves c (f c) s (h c _)).trans (ih _)

theorem pmPowerOn_moves (s : State) : Moves s (pmPowerOn s) := by
  refine Moves.trans (t := s.setClean { s.clean with pmPwr := true }) (.of_eq rfl) ?_
  exact changeChan_moves _ _ _ (powerOn_sound _ _ _)

theorem pmPowerOff_moves (s : State) : Moves s (pmPowerOff s) := by
  refine Moves.trans (t := s.setClean { s.clean with pmPwr := false }) (.of_eq rfl) ?_
  exact changeChan_moves _ _ _ (powerOff_sound _)

theorem clearChannel_moves (ch : Channel) (s : State) : Moves s (clearChannel ch s) := changeChan_moves _ _ _ (clearFault_sound _ _ _ _)

theorem applyCleanMode_moves (m : CleanMode) (l : Nat) (s : State) : Moves s (applyCleanMode m l s) := by
  have h : Moves s (if s.clean.mode = .off then pmPowerOn s else s) := .cond (fun _ => pmPowerOn_moves s) (fun _ => .refl s)
  unfold applyCleanMode; split
  · exact .cond (fun _ => .refl s) (fun _ => (changeClean_moves _ s).trans (pmPowerOff_moves _))
  · exact h.trans (changeClean_moves _ _)
  · exact .cond (fun _ => .refl s) (fun _ => h.trans (changeClean_moves _ _))

/-! The Scanner -/

theorem sendNotices_moves (old new : List Channel) (s : State) : Moves s (sendNotices old new s) := by
  refine changeChans_moves _ (fun ch c h => ?_) Channel.all s
  split
  · exact entered_sound _ _ _ h
  · split
    · exact leave_sound _ h
    · exact h

theorem startSlot_moves (s : State) : Moves s (startSlot s) := by
  refine Moves.trans (t := sendNotices s.scan.members s.nextMembers (installSequence (countSlot s))) ?_ (.of_eq rfl)
  exact .from_eq (sendNotices_moves _ _ _) rfl

theorem deliverSample_moves (raw : Nat) (s : State) : Moves s (deliverSample raw s) := by
  unfold deliverSample; split
  · exact .from_eq (sampleChan_moves _ _ _) rfl
  · exact .refl s

theorem applySubst_moves (c : Channel) (k : SubstKind) (n : Int) (s : State) : Moves s (applySubst c k n s) := by
  refine Moves.trans (t := s.setSubst c (some { kind := k, next := n })) (.of_eq rfl) ?_
  exact changeChan_moves _ _ _ (substitute_sound _ _)

theorem clearSubst_moves (c : Channel) (s : State) : Moves s (clearSubst c s) := by
  unfold clearSubst
  refine .cond (fun _ => ?_) (fun _ => .refl s)
  refine Moves.trans (t := s.setSubst c none) (.of_eq rfl) ?_
  exact changeChan_moves _ _ _ (substitute_sound _ _)

/-! The Service Unit -/

theorem startFanRun_moves (l d : Nat) (ch : Option Channel) (s : State) : Moves s (startFanRun l d ch s) := by
  unfold startFanRun; dsimp only; split
  · exact .from_eq (takeClaim_moves _ _ _) rfl
  · exact .of_eq rfl

theorem startPumpRun_moves (s : State) : Moves s (startPumpRun s) := .from_eq (startPump_moves _ _) rfl

theorem stopService_moves (s : State) : Moves s (stopService s) := by
  unfold stopService; split
  · exact .refl s
  · split
    · refine Moves.trans (t := releaseRow .service s) (.of_eq rfl) ?_
      exact (releaseClaim_moves .service _).trans (endServiceRun_moves _)
    · exact endServiceRun_moves s
    · exact .cond (fun _ => endPump_moves _ s) (fun _ => endServiceRun_moves s)

theorem serviceTick_moves (s : State) : Moves s (serviceTick s) := by
  unfold serviceTick
  exact .cond (fun _ => stopService_moves s) (fun _ => .refl s)

end Sys2Proof.Machine
end

