-- ==== Sys2Proof/Laws/Kept.lean ====
section
/-! SUPPORT. What an event leaves as it is: one lemma per operation that takes part in one, up to `event_kept`. -/

namespace Sys2Proof.Machine

/-! Shared operations -/

theorem setRow_dry_kept (k : RowKind) (l : Nat) (s : State) : (setRow .dry k l s).kept = s.kept := rfl

theorem setRow_filter_kept (k : RowKind) (l : Nat) (s : State) : (setRow .filter k l s).kept = s.kept := rfl

theorem releaseRow_dry_kept (s : State) : (releaseRow .dry s).kept = s.kept := rfl

theorem releaseRow_filter_kept (s : State) : (releaseRow .filter s).kept = s.kept := rfl

theorem takeClaim_kept (who : Claimant) (c : Channel) (s : State) : (takeClaim who c s).kept = s.kept := rfl

theorem releaseClaim_kept (who : Claimant) (s : State) : (releaseClaim who s).kept = s.kept := rfl

theorem publish_kept (s : State) : (publish s).kept = s.kept := rfl

theorem oneShot_kept (id : Nat) (s : State) : (oneShot id s).kept = s.kept := by
  unfold oneShot; split <;> rfl

/-! The drying cycle -/

theorem compOff_kept (r : StopReason) (s : State) : (compOff r s).kept = s.kept := rfl

theorem toLockout_kept (s : State) : (toLockout s).kept = s.kept := rfl

theorem enterStopping_kept (r : StopReason) (s : State) : (enterStopping r s).kept = s.kept := rfl

theorem takeDropout_kept (s : State) : (takeDropout s).kept = s.kept := by
  unfold takeDropout; split <;> rfl

theorem beginAttempt_kept (s : State) : (beginAttempt s).kept = s.kept := rfl

theorem enterStarting_kept (s : State) : (enterStarting s).kept = s.kept := by
  unfold enterStarting; dsimp only; split
  · rfl
  · exact takeDropout_kept _

theorem loseAttempt_kept (s : State) : (loseAttempt s).kept = s.kept := rfl

theorem holdFromNormal_kept (s : State) : (holdFromNormal s).kept = s.kept := by
  unfold holdFromNormal; dsimp only; split <;> rfl

theorem holdFromMelt_kept (s : State) : (holdFromMelt s).kept = s.kept := rfl

theorem enterHold_kept (s : State) : (enterHold s).kept = s.kept := by
  unfold enterHold; split
  · exact holdFromMelt_kept s
  · exact holdFromNormal_kept s

theorem endHold_kept (s : State) : (endHold s).kept = s.kept := by
  unfold endHold; split
  · rfl
  · split <;> rfl

theorem raiseCause_kept (c : HoldCause) (s : State) : (raiseCause c s).kept = s.kept := by
  unfold raiseCause; split
  · rfl
  · split
    · exact enterHold_kept _
    · rfl

theorem clearCause_kept (c : HoldCause) (s : State) : (clearCause c s).kept = s.kept := by
  unfold clearCause; split
  · rfl
  · dsimp only; split
    · exact endHold_kept _
    · rfl

theorem endStop_kept (s : State) : (endStop s).kept = s.kept := by
  unfold endStop; dsimp only; split
  · rfl
  · exact enterHold_kept _

/-! The pressure check and the airflow side -/

theorem endCheck_kept (r : CheckResult) (s : State) : (endCheck r s).kept = s.kept := oneShot_kept _ _

theorem preemptCheck_kept (s : State) : (preemptCheck s).kept = s.kept := by
  unfold preemptCheck; split
  · exact endCheck_kept _ _
  · rfl

theorem startCheck_kept (s : State) : (startCheck s).kept = s.kept := rfl

theorem abortFilter_kept (s : State) : (abortFilter s).kept = s.kept := by
  unfold abortFilter; split
  · exact preemptCheck_kept _
  · rfl

theorem takeGrant_stalls (l t : Nat) (o : Bool) (f : Fan) :
    (f.takeGrant l t o).stalls = f.stalls ∧ (f.takeGrant l t o).fault = f.fault ∧ (f.takeGrant l t o).runTime = f.runTime := by
  unfold Fan.takeGrant; dsimp only; split <;> split <;> exact ⟨rfl, rfl, rfl⟩

theorem updateGrant_kept (s : State) : (updateGrant s).kept = s.kept := by
  unfold updateGrant; dsimp only; split
  · rfl
  · have h := takeGrant_stalls s.computedGrant (s.levelEntry s.computedGrant).speed s.water.cover.filtered s.fan
    simp [State.kept, h]

theorem interlock_kept (s : State) : (interlock s).kept = s.kept := by
  unfold interlock; split
  · exact takeDropout_kept _
  · rfl

theorem updateShort_kept (s : State) : (updateShort s).kept = s.kept := by
  unfold updateShort; dsimp only; split
  · rfl
  · split <;> rfl

theorem airflow_kept (s : State) : (airflow s).kept = s.kept := by
  simp [airflow, updateShort_kept, interlock_kept, updateGrant_kept, abortFilter_kept]

/-! The parts of a round -/

theorem nextFree_kept (s : State) : (nextFree s).kept = s.kept := rfl

theorem supplySync_kept (s : State) : (supplySync s).kept = s.kept := by
  unfold supplySync; dsimp only; split
  · rfl
  · split
    · split
      · rfl
      · split <;> rfl
    · rfl

theorem roomSync_kept (s : State) : (roomSync s).kept = s.kept := by
  unfold roomSync; split
  · split
    · rfl
    · split <;> rfl
  · rfl

theorem tankSync_kept (s : State) : (tankSync s).kept = s.kept := rfl

theorem drainSync_kept (s : State) : (drainSync s).kept = s.kept := by
  unfold drainSync; split
  · rfl
  · split
    · rfl
    · split <;> rfl

theorem raiseAll_kept (cs : List HoldCause) : ∀ s : State, (raiseAll cs s).kept = s.kept := by
  induction cs with
  | nil => intro s; rfl
  | cons c cs ih => intro s; simp [raiseAll, ih, publish_kept, airflow_kept, raiseCause_kept]

theorem clearAll_kept (cs : List HoldCause) : ∀ s : State, (clearAll cs s).kept = s.kept := by
  induction cs with
  | nil => intro s; rfl
  | cons c cs ih => intro s; simp [clearAll, ih, publish_kept, airflow_kept, clearCause_kept]

theorem holdSync_kept (s : State) : (holdSync s).kept = s.kept := by
  unfold holdSync; dsimp only; split
  · exact clearAll_kept _ _
  · split
    · exact raiseAll_kept _ _
    · split <;> simp [clearAll_kept, raiseAll_kept, nextFree_kept]

theorem airAndHolds_kept (s : State) : (airAndHolds s).kept = s.kept := by
  unfold airAndHolds; split
  · split <;> simp [holdSync_kept, publish_kept, airflow_kept, nextFree_kept]
  · simp [holdSync_kept, publish_kept, airflow_kept]

theorem checkSync_kept (s : State) : (checkSync s).kept = s.kept := by
  unfold checkSync; split
  · exact endCheck_kept _ _
  · split
    · rfl
    · split
      · dsimp only; split
        · exact endCheck_kept _ _
        · rfl
      · rfl

theorem demandSync_kept (s : State) : (demandSync s).kept = s.kept := by
  unfold demandSync; split <;> rfl

theorem stopSync_kept (s : State) : (stopSync s).kept = s.kept := by
  unfold stopSync; split
  · exact endStop_kept s
  · rfl

theorem timerSync_kept (s : State) : (timerSync s).kept = s.kept := by
  unfold timerSync; split
  · rfl
  · split <;> rfl

theorem lossSync_kept (s : State) : (lossSync s).kept = s.kept := by
  unfold lossSync; split <;> rfl

theorem waitSync_kept (s : State) : (waitSync s).kept = s.kept := by
  unfold waitSync; split
  · split
    · rfl
    · split
      · exact enterStarting_kept s
      · rfl
  · rfl

theorem startSync_kept (s : State) : (startSync s).kept = s.kept := by
  unfold startSync; split <;> simp [waitSync_kept, airflow_kept, beginAttempt_kept]

theorem checkStartSync_kept (s : State) : (checkStartSync s).kept = s.kept := by
  unfold checkStartSync; split <;> simp [airflow_kept, startCheck_kept]

theorem startsSync_kept (s : State) : (startsSync s).kept = s.kept := by
  unfold startsSync; split
  · split <;> simp [checkStartSync_kept, startSync_kept, nextFree_kept]
  · simp [checkStartSync_kept, startSync_kept]

theorem idleSync_kept (s : State) : (idleSync s).kept = s.kept := rfl

/-! Rounds and events -/

theorem settleRound_kept (s : State) : (settleRound s).kept = s.kept := by
  simp [settleRound, publish_kept, airflow_kept, idleSync_kept, startsSync_kept, lossSync_kept, timerSync_kept, stopSync_kept,
    demandSync_kept, checkSync_kept, airAndHolds_kept, roomSync_kept, drainSync_kept, tankSync_kept, supplySync_kept]

theorem settleRounds_kept (n : Nat) : ∀ s : State, (settleRounds n s).kept = s.kept := by
  induction n with
  | zero => intro s; rfl
  | succ n ih => intro s; rw [settleRounds, ih, settleRound_kept]

theorem settle_kept (s : State) : (settle s).kept = s.kept := settleRounds_kept _ s

theorem startPump_kept (k : PumpKind) (s : State) : (startPump k s).kept = s.kept := rfl

theorem autoPump_kept (s : State) : (autoPump s).kept = s.kept := by
  unfold autoPump; split
  · split
    · exact startPump_kept _ s
    · rfl
  · rfl

/-- Everything an event leaves as its own change left it. -/
theorem inIdOrder_kept (s t : State) : (inIdOrder s t).kept = t.kept := rfl

theorem event_kept (f : State → State) (s : State) : (event f s).kept = (f s).kept := by
  unfold event; rw [inIdOrder_kept]; split
  · rw [autoPump_kept, settle_kept]
  · exact settle_kept _

/-! The parts of `kept`, and of an event. -/

theorem kept_pending {a b : State} (h : a.kept = b.kept) : a.pending = b.pending := congrArg Kept.pending h

theorem kept_rst {a b : State} (h : a.kept = b.kept) : a.rst = b.rst := congrArg Kept.rst h

theorem kept_time {a b : State} (h : a.kept = b.kept) : a.time = b.time := congrArg Kept.time h

theorem kept_setup {a b : State} (h : a.kept = b.kept) : a.setup = b.setup := congrArg Kept.setup h

theorem kept_chans {a b : State} (h : a.kept = b.kept) : a.chans = b.chans := congrArg Kept.chans h

theorem kept_clean {a b : State} (h : a.kept = b.kept) : a.clean = b.clean := congrArg Kept.clean h

theorem kept_serv {a b : State} (h : a.kept = b.kept) : a.serv = b.serv := congrArg Kept.serv h

theorem kept_link {a b : State} (h : a.kept = b.kept) : a.link = b.link := congrArg Kept.link h

theorem kept_slots {a b : State} (h : a.kept = b.kept) : a.filt.slots = b.filt.slots := congrArg Kept.slots h

theorem kept_plan {a b : State} (h : a.kept = b.kept) : a.scan.plan = b.scan.plan := congrArg Kept.plan h

theorem kept_seq {a b : State} (h : a.kept = b.kept) : a.scan.seq = b.scan.seq := congrArg Kept.seq h

theorem kept_members {a b : State} (h : a.kept = b.kept) : a.scan.members = b.scan.members := congrArg Kept.members h

theorem kept_pos {a b : State} (h : a.kept = b.kept) : a.scan.pos = b.scan.pos := congrArg Kept.pos h

theorem kept_converting {a b : State} (h : a.kept = b.kept) : a.scan.converting = b.scan.converting := congrArg Kept.converting h

theorem kept_hostCeiling {a b : State} (h : a.kept = b.kept) : a.arb.hostCeiling = b.arb.hostCeiling := congrArg Kept.hostCeiling h

theorem kept_boostRemaining {a b : State} (h : a.kept = b.kept) : a.arb.boostRemaining = b.arb.boostRemaining := congrArg Kept.boostRemaining h

theorem kept_stalls {a b : State} (h : a.kept = b.kept) : a.fan.stalls = b.fan.stalls := congrArg Kept.stalls h

theorem kept_fanFault {a b : State} (h : a.kept = b.kept) : a.fan.fault = b.fan.fault := congrArg Kept.fanFault h

theorem kept_runTime {a b : State} (h : a.kept = b.kept) : a.fan.runTime = b.fan.runTime := congrArg Kept.runTime h

theorem kept_runCount {a b : State} (h : a.kept = b.kept) : a.filt.check.runCount = b.filt.check.runCount := congrArg Kept.runCount h

theorem kept_lastCause {a b : State} (h : a.kept = b.kept) : a.ev.lastCause = b.ev.lastCause := congrArg Kept.lastCause h

theorem kept_cleanRow {a b : State} (h : a.kept = b.kept) : a.arb.clean = b.arb.clean := congrArg (fun k => (Kept.rows k).1) h

theorem kept_serviceRow {a b : State} (h : a.kept = b.kept) : a.arb.service = b.arb.service := congrArg (fun k => (Kept.rows k).2.1) h

theorem kept_boostRow {a b : State} (h : a.kept = b.kept) : a.arb.boost = b.arb.boost := congrArg (fun k => (Kept.rows k).2.2) h

theorem kept_mode {a b : State} (h : a.kept = b.kept) : a.dry.mode = b.dry.mode := congrArg (fun k => (Kept.dryMode k).1) h

theorem kept_setpoint {a b : State} (h : a.kept = b.kept) : a.dry.setpoint = b.dry.setpoint := congrArg (fun k => (Kept.dryMode k).2) h

theorem kept_failures {a b : State} (h : a.kept = b.kept) : a.dry.failures = b.dry.failures := congrArg (fun k => (Kept.failures k).1) h

theorem kept_lastFailure {a b : State} (h : a.kept = b.kept) : a.dry.lastFailure = b.dry.lastFailure := congrArg (fun k => (Kept.failures k).2.1) h

theorem kept_disabled {a b : State} (h : a.kept = b.kept) : a.dry.disabled = b.dry.disabled := congrArg (fun k => (Kept.failures k).2.2) h

theorem kept_weak {a b : State} (h : a.kept = b.kept) : a.dry.weak = b.dry.weak := congrArg (fun k => (Kept.weak k).1) h

theorem kept_riseRef {a b : State} (h : a.kept = b.kept) : a.dry.riseRef = b.dry.riseRef := congrArg (fun k => (Kept.weak k).2.1) h

theorem kept_dryWeak {a b : State} (h : a.kept = b.kept) : a.dry.dryWeak = b.dry.dryWeak := congrArg (fun k => (Kept.weak k).2.2) h

theorem kept_starts {a b : State} (h : a.kept = b.kept) : a.dry.starts = b.dry.starts := congrArg (fun k => (Kept.totals k).1) h

theorem kept_totalRun {a b : State} (h : a.kept = b.kept) : a.dry.totalRun = b.dry.totalRun := congrArg (fun k => (Kept.totals k).2) h

theorem kept_defrostCount {a b : State} (h : a.kept = b.kept) : a.dry.defrostCount = b.dry.defrostCount := congrArg (fun k => (Kept.defrosts k).1) h

theorem kept_lastDefrost {a b : State} (h : a.kept = b.kept) : a.dry.lastDefrost = b.dry.lastDefrost := congrArg (fun k => (Kept.defrosts k).2) h

theorem kept_tankIn {a b : State} (h : a.kept = b.kept) : a.water.tankIn = b.water.tankIn := congrArg (fun k => (Kept.inputs k).1) h

theorem kept_float {a b : State} (h : a.kept = b.kept) : a.water.float = b.water.float := congrArg (fun k => (Kept.inputs k).2.1) h

theorem kept_cover {a b : State} (h : a.kept = b.kept) : a.water.cover = b.water.cover := congrArg (fun k => (Kept.inputs k).2.2) h

theorem kept_held {a b : State} (h : a.kept = b.kept) : a.water.held = b.water.held := congrArg (fun k => (Kept.water k).1) h

theorem kept_total {a b : State} (h : a.kept = b.kept) : a.water.total = b.water.total := congrArg (fun k => (Kept.water k).2.1) h

theorem kept_emptyings {a b : State} (h : a.kept = b.kept) : a.water.emptyings = b.water.emptyings := congrArg (fun k => (Kept.water k).2.2.1) h

theorem kept_unknownEmptyings {a b : State} (h : a.kept = b.kept) : a.water.unknownEmptyings = b.water.unknownEmptyings := congrArg (fun k => (Kept.water k).2.2.2.1) h

theorem kept_unknownRuns {a b : State} (h : a.kept = b.kept) : a.water.unknownRuns = b.water.unknownRuns := congrArg (fun k => (Kept.water k).2.2.2.2) h

theorem kept_pumpFailures {a b : State} (h : a.kept = b.kept) : a.water.failures = b.water.failures := congrArg (fun k => (Kept.pumpFault k).1) h

theorem kept_pumpFault {a b : State} (h : a.kept = b.kept) : a.water.fault = b.water.fault := congrArg (fun k => (Kept.pumpFault k).2) h

theorem kept_riseEn {a b : State} (h : a.kept = b.kept) : a.ev.riseEn = b.ev.riseEn := congrArg (fun k => (Kept.enables k).1) h

theorem kept_fallEn {a b : State} (h : a.kept = b.kept) : a.ev.fallEn = b.ev.fallEn := congrArg (fun k => (Kept.enables k).2.1) h

theorem kept_onceEn {a b : State} (h : a.kept = b.kept) : a.ev.onceEn = b.ev.onceEn := congrArg (fun k => (Kept.enables k).2.2.1) h

theorem kept_attention {a b : State} (h : a.kept = b.kept) : a.ev.attention = b.ev.attention := congrArg (fun k => (Kept.enables k).2.2.2) h


theorem event_pending (f : State → State) (s : State) : (event f s).pending = (f s).pending := kept_pending (event_kept f s)

theorem event_rst (f : State → State) (s : State) : (event f s).rst = (f s).rst := kept_rst (event_kept f s)

theorem event_time (f : State → State) (s : State) : (event f s).time = (f s).time := kept_time (event_kept f s)

theorem event_setup (f : State → State) (s : State) : (event f s).setup = (f s).setup := kept_setup (event_kept f s)

theorem event_chans (f : State → State) (s : State) : (event f s).chans = (f s).chans := kept_chans (event_kept f s)

theorem event_clean (f : State → State) (s : State) : (event f s).clean = (f s).clean := kept_clean (event_kept f s)

theorem event_serv (f : State → State) (s : State) : (event f s).serv = (f s).serv := kept_serv (event_kept f s)

theorem event_link (f : State → State) (s : State) : (event f s).link = (f s).link := kept_link (event_kept f s)

theorem event_slots (f : State → State) (s : State) : (event f s).filt.slots = (f s).filt.slots := kept_slots (event_kept f s)

theorem event_plan (f : State → State) (s : State) : (event f s).scan.plan = (f s).scan.plan := kept_plan (event_kept f s)

theorem event_seq (f : State → State) (s : State) : (event f s).scan.seq = (f s).scan.seq := kept_seq (event_kept f s)

theorem event_members (f : State → State) (s : State) : (event f s).scan.members = (f s).scan.members := kept_members (event_kept f s)

theorem event_pos (f : State → State) (s : State) : (event f s).scan.pos = (f s).scan.pos := kept_pos (event_kept f s)

theorem event_converting (f : State → State) (s : State) : (event f s).scan.converting = (f s).scan.converting := kept_converting (event_kept f s)

theorem event_hostCeiling (f : State → State) (s : State) : (event f s).arb.hostCeiling = (f s).arb.hostCeiling := kept_hostCeiling (event_kept f s)

theorem event_boostRemaining (f : State → State) (s : State) : (event f s).arb.boostRemaining = (f s).arb.boostRemaining := kept_boostRemaining (event_kept f s)

theorem event_stalls (f : State → State) (s : State) : (event f s).fan.stalls = (f s).fan.stalls := kept_stalls (event_kept f s)

theorem event_fanFault (f : State → State) (s : State) : (event f s).fan.fault = (f s).fan.fault := kept_fanFault (event_kept f s)

theorem event_runTime (f : State → State) (s : State) : (event f s).fan.runTime = (f s).fan.runTime := kept_runTime (event_kept f s)

theorem event_runCount (f : State → State) (s : State) : (event f s).filt.check.runCount = (f s).filt.check.runCount := kept_runCount (event_kept f s)

theorem event_lastCause (f : State → State) (s : State) : (event f s).ev.lastCause = (f s).ev.lastCause := kept_lastCause (event_kept f s)

theorem event_cleanRow (f : State → State) (s : State) : (event f s).arb.clean = (f s).arb.clean := kept_cleanRow (event_kept f s)

theorem event_serviceRow (f : State → State) (s : State) : (event f s).arb.service = (f s).arb.service := kept_serviceRow (event_kept f s)

theorem event_boostRow (f : State → State) (s : State) : (event f s).arb.boost = (f s).arb.boost := kept_boostRow (event_kept f s)

theorem event_mode (f : State → State) (s : State) : (event f s).dry.mode = (f s).dry.mode := kept_mode (event_kept f s)

theorem event_setpoint (f : State → State) (s : State) : (event f s).dry.setpoint = (f s).dry.setpoint := kept_setpoint (event_kept f s)

theorem event_failures (f : State → State) (s : State) : (event f s).dry.failures = (f s).dry.failures := kept_failures (event_kept f s)

theorem event_lastFailure (f : State → State) (s : State) : (event f s).dry.lastFailure = (f s).dry.lastFailure := kept_lastFailure (event_kept f s)

theorem event_disabled (f : State → State) (s : State) : (event f s).dry.disabled = (f s).dry.disabled := kept_disabled (event_kept f s)

theorem event_weak (f : State → State) (s : State) : (event f s).dry.weak = (f s).dry.weak := kept_weak (event_kept f s)

theorem event_riseRef (f : State → State) (s : State) : (event f s).dry.riseRef = (f s).dry.riseRef := kept_riseRef (event_kept f s)

theorem event_dryWeak (f : State → State) (s : State) : (event f s).dry.dryWeak = (f s).dry.dryWeak := kept_dryWeak (event_kept f s)

theorem event_starts (f : State → State) (s : State) : (event f s).dry.starts = (f s).dry.starts := kept_starts (event_kept f s)

theorem event_totalRun (f : State → State) (s : State) : (event f s).dry.totalRun = (f s).dry.totalRun := kept_totalRun (event_kept f s)

theorem event_defrostCount (f : State → State) (s : State) : (event f s).dry.defrostCount = (f s).dry.defrostCount := kept_defrostCount (event_kept f s)

theorem event_lastDefrost (f : State → State) (s : State) : (event f s).dry.lastDefrost = (f s).dry.lastDefrost := kept_lastDefrost (event_kept f s)

theorem event_tankIn (f : State → State) (s : State) : (event f s).water.tankIn = (f s).water.tankIn := kept_tankIn (event_kept f s)

theorem event_float (f : State → State) (s : State) : (event f s).water.float = (f s).water.float := kept_float (event_kept f s)

theorem event_cover (f : State → State) (s : State) : (event f s).water.cover = (f s).water.cover := kept_cover (event_kept f s)

theorem event_held (f : State → State) (s : State) : (event f s).water.held = (f s).water.held := kept_held (event_kept f s)

theorem event_total (f : State → State) (s : State) : (event f s).water.total = (f s).water.total := kept_total (event_kept f s)

theorem event_emptyings (f : State → State) (s : State) : (event f s).water.emptyings = (f s).water.emptyings := kept_emptyings (event_kept f s)

theorem event_unknownEmptyings (f : State → State) (s : State) : (event f s).water.unknownEmptyings = (f s).water.unknownEmptyings := kept_unknownEmptyings (event_kept f s)

theorem event_unknownRuns (f : State → State) (s : State) : (event f s).water.unknownRuns = (f s).water.unknownRuns := kept_unknownRuns (event_kept f s)

theorem event_pumpFailures (f : State → State) (s : State) : (event f s).water.failures = (f s).water.failures := kept_pumpFailures (event_kept f s)

theorem event_pumpFault (f : State → State) (s : State) : (event f s).water.fault = (f s).water.fault := kept_pumpFault (event_kept f s)

theorem event_riseEn (f : State → State) (s : State) : (event f s).ev.riseEn = (f s).ev.riseEn := kept_riseEn (event_kept f s)

theorem event_fallEn (f : State → State) (s : State) : (event f s).ev.fallEn = (f s).ev.fallEn := kept_fallEn (event_kept f s)

theorem event_onceEn (f : State → State) (s : State) : (event f s).ev.onceEn = (f s).ev.onceEn := kept_onceEn (event_kept f s)

theorem event_attention (f : State → State) (s : State) : (event f s).ev.attention = (f s).ev.attention := kept_attention (event_kept f s)

end Sys2Proof.Machine
end

