-- ==== Sys2Proof/Laws/Readers.lean ====
section
/-! SUPPORT. What the readers of a channel leave as it is, and what a change made on several channels does to the records. -/

set_option linter.unusedSimpArgs false

namespace Sys2Proof.Machine

/-- What no reader of a channel changes. -/
def State.unread (s : State) :=
  (s.rst, s.time, s.setup, (s.scan.plan, s.scan.seq, s.scan.members, s.scan.pos, s.scan.converting), s.chans, s.serv.subst, s.link,
    s.clean.pmPwr)


theorem event_unread (f : State → State) (s : State) : State.unread (event f s) = State.unread (f s) := by
  simp only [State.unread, event_rst, event_time, event_setup, event_plan, event_seq, event_members, event_pos, event_converting, event_chans, event_serv, event_link, event_clean]

theorem endServiceRun_unread (s : State) : State.unread (endServiceRun s) = s.unread := by unfold endServiceRun oneShot; split <;> rfl

theorem endPump_unread (r) (s : State) : State.unread (endPump r s) = s.unread := by
  unfold endPump; dsimp only
  have h : ∀ u, State.unread (oneShot 24 (publish (drainSync (tankSync u)))) = u.unread := fun u => by
    rw [show ∀ u, State.unread (oneShot 24 (publish u)) = u.unread from fun u => by unfold oneShot; split <;> rfl]
    unfold drainSync; split
    · rfl
    · split
      · rfl
      · split <;> rfl
  split
  · split
    · rw [endServiceRun_unread, h]; rfl
    · rw [h]; rfl
  · rw [h]; rfl

theorem endCheck_unread (r) (s : State) : State.unread (endCheck r s) = s.unread := by
  have h : ∀ u, State.unread (oneShot 25 (publish u)) = u.unread := fun u => by unfold oneShot; split <;> rfl
  unfold endCheck; dsimp only; rw [h]; rfl

theorem countSample_unread (v) (s : State) : State.unread (countSample v s) = s.unread := by
  unfold countSample; dsimp only; split
  · rfl
  · rw [endCheck_unread]; rfl

theorem waterLevel_unread (v) (s : State) : State.unread (waterLevel v s) = s.unread := by
  unfold waterLevel; dsimp only
  have h1 : ∀ (p : Prop) [Decidable p] (u w : State), u.unread = s.unread → w.unread = s.unread → State.unread (if p then u else w) = s.unread := by
    intro p _ u w a b; split; exact a; exact b
  have h2 : State.unread (if s.setup.optDrain ≠ .gravity ∧ s.water.tankIn.filtered = true then s.setWater { s.water with held := some v } else s) = s.unread := h1 _ _ _ rfl rfl
  generalize (if s.setup.optDrain ≠ .gravity ∧ s.water.tankIn.filtered = true then s.setWater { s.water with held := some v } else s) = u at *
  have h3 : State.unread (if u.pumping then u.setPump { u.water.pump with latestLevel := some v } else u) = s.unread := h1 _ _ _ h2 h2
  generalize (if u.pumping then u.setPump { u.water.pump with latestLevel := some v } else u) = w at *
  exact h1 _ _ _ ((endPump_unread _ _).trans h3) h3

theorem followRise_unread (v) (s : State) : State.unread (followRise v s) = s.unread := by
  unfold followRise; split
  · rfl
  · split
    · rfl
    · split <;> rfl

theorem react_pmPwr (u o n) (c : Cleaning) : (c.react u o n).pmPwr = c.pmPwr := by
  unfold Cleaning.react; split; rfl
  split
  · split
    · split; rfl
      unfold Cleaning.takeValue; dsimp only; 
      have hf : ∀ (v : Int) (c : Cleaning), (c.follow u v).pmPwr = c.pmPwr := by
        intro v c; unfold Cleaning.follow; dsimp only; split
        · split <;> rfl
        · split; rfl; split; split <;> rfl; rfl
      have hr : ∀ (v : Int) (c : Cleaning), (c.resolve u v).pmPwr = c.pmPwr := by
        intro v c; unfold Cleaning.resolve; dsimp only; split <;> rfl
      split <;> first | exact hf _ _ | exact hr _ _ | rfl
    · rfl
  · split <;> rfl
  · split <;> rfl
  · split <;> rfl
  · rfl

theorem changeClean_unread (f : Cleaning → Cleaning) (hf : ∀ c, (f c).pmPwr = c.pmPwr) (s : State) : State.unread (changeClean f s) = s.unread := by
  unfold changeClean placeClean; dsimp only
  split
  · simp [State.unread, hf]
  · split
    · simp [State.unread, hf, releaseRow]
    · split <;> simp [State.unread, hf, releaseRow, setRow]

/-- The readers of a channel leave all that as it is. -/
theorem notify_unread (ch a o n) (s : State) : State.unread (notify ch a o n s) = s.unread := by
  unfold notify; split
  · unfold readRh testWeak; split; rfl; split <;> rfl
  · unfold readRoom; split <;> rfl
  · rfl
  · unfold readTank; dsimp only
    have h1 : ∀ u : State, State.unread (if o.becomesLost n then loseHeld u else u) = u.unread := fun u => by split <;> rfl
    split
    · rw [waterLevel_unread, followRise_unread, h1]
    · rw [h1]
  · unfold readDp; split
    · split; exact countSample_unread _ _; rfl
    · rfl
  · exact changeClean_unread _ (fun c => react_pmPwr _ _ _ _) s
  · rfl
  · unfold readCurrent; split
    · split <;> rfl
    · rfl

theorem PerChannel.get_set_same {α} (p : PerChannel α) (c : Channel) (v : α) : (p.set c v).get c = v := by cases c <;> rfl

theorem PerChannel.get_set_other {α} (p : PerChannel α) (c d : Channel) (v : α) (h : d ≠ c) : (p.set c v).get d = p.get d := by
  cases c <;> cases d <;> first | rfl | exact absurd rfl h

/-- A change made on several channels changes their records, and what no reader changes stays. -/
theorem changeChans_chan (f : Channel → Chan → Chan) (l : List Channel) (hl : l.Nodup) : ∀ s : State,
    let t := changeChans f l s
    (t.rst, t.time, t.setup, (t.scan.plan, t.scan.seq, t.scan.members, t.scan.pos, t.scan.converting), t.serv.subst, t.link, t.clean.pmPwr) = (s.rst, s.time, s.setup, (s.scan.plan, s.scan.seq, s.scan.members, s.scan.pos, s.scan.converting), s.serv.subst, s.link, s.clean.pmPwr) ∧
    ∀ c, t.chan c = if c ∈ l then f c (s.chan c) else s.chan c := by
  induction l with
  | nil => intro s; exact ⟨rfl, fun c => by simp [changeChans]⟩
  | cons d ds ih =>
    intro s
    have hn := notify_unread d false (s.chan d) (f d (s.chan d)) (putChan d (f d (s.chan d)) s)
    obtain ⟨h1, h2⟩ := ih (List.nodup_cons.mp hl).2 (changeChan d (f d) s)
    simp only [State.unread, Prod.mk.injEq] at hn
    unfold changeChans
    refine ⟨?_, ?_⟩
    · rw [h1]; simp only [changeChan, hn]; rfl
    · intro c; rw [h2]
      have hc : (changeChan d (f d) s).chan c = if c = d then f d (s.chan d) else s.chan c := by
        have hx : (changeChan d (f d) s).chans = s.chans.set d (f d (s.chan d)) := hn.2.2.2.2.1
        show (changeChan d (f d) s).chans.get c = _
        rw [hx]
        split
        · next e => subst e; exact PerChannel.get_set_same _ _ _
        · next e => exact PerChannel.get_set_other _ _ _ _ e
      rw [hc]
      have hd := (List.nodup_cons.mp hl).1
      by_cases e : c = d
      · subst e; simp [hd]
      · simp [e]

theorem Channel.all_nodup : Channel.all.Nodup := by decide

theorem Channel.mem_all (c : Channel) : c ∈ Channel.all := by cases c <;> decide

end Sys2Proof.Machine
end

