-- ==== Sys2Proof/Laws/Requests.lean ====
section
/-! SUPPORT. How a request reaches its block and earns its reply, once for all request rows. -/

namespace Sys2Proof.Machine

@[simp] theorem endSilence_link (s : State) : (endSilence s).link = { s.link with silence := 0, silent := false } := rfl

/-- An event depends on its change by what the change makes of the state. -/
theorem event_after (f : State → State) (s : State) : event f s = s.after (f s) := by unfold State.after event; rfl

/-- An event row that is due. -/
theorem whenDue_after {test : State → Prop} [DecidablePred test] {f : State → State} {s : State} (r : s.rst.inReset = false)
    (t : test s) : whenDue test f s = .next (s.after (f s)) := by
  unfold whenDue live; rw [if_neg (by simp [r])]; dsimp only; rw [if_pos t, event_after]

/-- A part of the tick that is due. -/
theorem whenTicking_after {test : State → Prop} [DecidablePred test] {f : State → State} {s : State} (r : s.rst.inReset = false)
    (k : s.time.tested = false) (t : test s) : whenTicking test f s = .next (s.after (f s)) := whenDue_after r ⟨k, t⟩

/-- A request that is accepted with an event. -/
theorem accept_after (f : State → State) (p : State → List Byte) (s : State) :
    accept f p s = (s.after (f s), .ok (p (s.after (f s)))) := by unfold accept; rw [event_after]

/-- A request whose reply is fixed ahead of what follows. -/
theorem acceptAhead_after (f : State → State) (p : State → List Byte) (s : State) :
    acceptAhead f p s = (s.after (f s), .ok (p (f s))) := by unfold acceptAhead; rw [event_after]

/-- A listening part takes the request at once, on the state in which the silence is cleared. -/
theorem heard (r : Request) (s : State) (h : s.listening) : live (arrive r) s = .next (takeRequest r (clearSilence s)) := by
  unfold live; rw [if_neg (by simp [h.1])]; unfold arrive place
  rw [if_pos]
  unfold clearSilence; split
  · rw [event_link]; exact h.2
  · exact h.2

/-- An accepted request that no reset follows. -/
theorem took {r : Request} {h u : State} {x : List Byte} (e : take r h = (u, .ok x)) (n : ∀ b, r ≠ .reset b) :
    takeRequest r h = u.replied r x := by
  unfold takeRequest; rw [e]; unfold State.replied State.answering replyFrame followUp
  cases r <;> first | rfl | exact absurd rfl (n _)

/-- A refused request. -/
theorem refused {r : Request} {h : State} {a : Reason} {b : Nat} (e : take r h = refuse a b h) : takeRequest r h = h.declined r a b := by
  unfold takeRequest; rw [e]; unfold State.declined State.answering replyFrame followUp refuse
  cases r <;> rfl

end Sys2Proof.Machine
end

