-- ==== Sys2Proof/Laws/Settled.lean ====
section
/-! SUPPORT. What holds when an event is done: the stored conditions are the owners' values, and COMP_ON is on only with the fan
RUNNING. -/

namespace Sys2Proof.Machine

/-- The stored conditions are those the owners give. -/
def State.upToDate (s : State) : Prop := s.ev.stored = conditions s

/-- COMP_ON is on only while the fan is RUNNING. -/
def State.interlocked (s : State) : Prop := s.comp.on = true → s.fan.state = .running

theorem publish_upToDate (s : State) : (publish s).upToDate := rfl

theorem publish_interlocked {s : State} (h : s.interlocked) : (publish s).interlocked := h

theorem takeDropout_interlocked {s : State} (h : s.comp.on = false) : (takeDropout s).interlocked := by
  unfold takeDropout; split
  · intro hc; cases hc
  · intro hc; rw [h] at hc; cases hc

theorem interlock_interlocked (s : State) : (interlock s).interlocked := by
  unfold interlock; split
  · exact takeDropout_interlocked rfl
  · next h => intro hc; exact Classical.byContradiction fun hr => h ⟨hc, hr⟩

theorem updateShort_interlocked {s : State} (h : s.interlocked) : (updateShort s).interlocked := by
  unfold updateShort; dsimp only; split
  · exact h
  · split
    · intro hc; cases hc
    · exact h

theorem airflow_interlocked (s : State) : (airflow s).interlocked := updateShort_interlocked (interlock_interlocked _)

theorem settleRound_upToDate (s : State) : (settleRound s).upToDate := publish_upToDate _

theorem settleRound_interlocked (s : State) : (settleRound s).interlocked := publish_interlocked (airflow_interlocked _)

theorem settleRounds_upToDate (n : Nat) : ∀ s : State, (settleRounds (n + 1) s).upToDate := by
  induction n with
  | zero => exact settleRound_upToDate
  | succ n ih => intro s; exact ih (settleRound s)

theorem settleRounds_interlocked (n : Nat) : ∀ s : State, (settleRounds (n + 1) s).interlocked := by
  induction n with
  | zero => exact settleRound_interlocked
  | succ n ih => intro s; exact ih (settleRound s)

theorem settle_upToDate (s : State) : (settle s).upToDate := settleRounds_upToDate 5 s

theorem settle_interlocked (s : State) : (settle s).interlocked := settleRounds_interlocked 5 s

theorem startPump_upToDate {k : PumpKind} {s : State} (h : s.upToDate) : (startPump k s).upToDate := h

theorem autoPump_upToDate {s : State} (h : s.upToDate) : (autoPump s).upToDate := by
  unfold autoPump; split
  · split
    · exact startPump_upToDate h
    · exact h
  · exact h

theorem autoPump_interlocked {s : State} (h : s.interlocked) : (autoPump s).interlocked := by
  unfold autoPump; split
  · split <;> exact h
  · exact h

/-! The order of what an event adds to the pending list -/

/-- It only moves entries. -/
theorem inIdOrder_perm (s t : State) : (inIdOrder s t).ev.list.Perm t.ev.list := by
  conv_rhs => rw [← List.take_append_drop s.ev.list.length t.ev.list]
  exact (List.perm_insertionSort _ _).append_left _

/-- The entries behind those of the first state stand in order of event id. -/
theorem inIdOrder_added (s t : State) : ((inIdOrder s t).ev.list.drop s.ev.list.length).Pairwise fun a b => a.id ≤ b.id := by
  have : Std.Total fun a b : EventEntry => a.id ≤ b.id := ⟨fun a b => Nat.le_total a.id b.id⟩
  have : IsTrans EventEntry fun a b => a.id ≤ b.id := ⟨fun _ _ _ => Nat.le_trans⟩
  have h := List.pairwise_insertionSort (fun a b : EventEntry => a.id ≤ b.id) (t.ev.list.drop s.ev.list.length)
  unfold inIdOrder
  simp only [State.setEv_ev]
  rw [List.drop_append]
  refine List.pairwise_append.mpr ⟨?_, h.sublist (List.drop_sublist _ _), ?_⟩
  all_goals rw [List.drop_eq_nil_of_le (List.length_take_le _ _)]; simp

/-- Without an added entry nothing moves. -/
theorem inIdOrder_same {s t : State} (h : t.ev.list.length ≤ s.ev.list.length) : inIdOrder s t = t := by
  unfold inIdOrder; dsimp only
  rw [List.drop_eq_nil_of_le h, List.take_of_length_le h, List.insertionSort_nil, List.append_nil]; rfl

theorem inIdOrder_upToDate {s t : State} (h : t.upToDate) : (inIdOrder s t).upToDate := h

theorem inIdOrder_interlocked {s t : State} (h : t.interlocked) : (inIdOrder s t).interlocked := h

/-- After an event the stored conditions are the owners' values. -/
theorem event_upToDate (f : State → State) (s : State) : (event f s).upToDate := by
  unfold event; refine inIdOrder_upToDate ?_; split
  · exact autoPump_upToDate (settle_upToDate _)
  · exact settle_upToDate _

/-- After an event COMP_ON is on only with the fan RUNNING. -/
theorem event_interlocked (f : State → State) (s : State) : (event f s).interlocked := by
  unfold event; refine inIdOrder_interlocked ?_; split
  · exact autoPump_interlocked (settle_interlocked _)
  · exact settle_interlocked _

/-! A check that is IDLE -/

theorem setRow_check (n : RowName) (k : RowKind) (l : Nat) (s : State) : (setRow n k l s).filt.check = s.filt.check := rfl

theorem oneShot_check (id : Nat) (s : State) : (oneShot id s).filt.check = s.filt.check := by unfold oneShot; split <;> rfl

theorem takeDropout_check (s : State) : (takeDropout s).filt.check = s.filt.check := by unfold takeDropout; split <;> rfl

theorem enterStarting_check (s : State) : (enterStarting s).filt.check = s.filt.check := by
  unfold enterStarting; dsimp only; split
  · rfl
  · exact takeDropout_check _

theorem enterHold_check (s : State) : (enterHold s).filt.check = s.filt.check := by
  unfold enterHold holdFromNormal; dsimp only; split
  · rfl
  · split <;> rfl

theorem endHold_check (s : State) : (endHold s).filt.check = s.filt.check := by
  unfold endHold; split
  · rfl
  · split <;> rfl

theorem raiseCause_check (c : HoldCause) (s : State) : (raiseCause c s).filt.check = s.filt.check := by
  unfold raiseCause; split
  · rfl
  · split
    · exact enterHold_check _
    · rfl

theorem clearCause_check (c : HoldCause) (s : State) : (clearCause c s).filt.check = s.filt.check := by
  unfold clearCause; split
  · rfl
  · dsimp only; split
    · exact endHold_check _
    · rfl

theorem endStop_check (s : State) : (endStop s).filt.check = s.filt.check := by
  unfold endStop; dsimp only; split
  · rfl
  · exact enterHold_check _

/-- The airflow side touches no check but one under way. -/
theorem airflow_check {s : State} (h : s.filt.check.state = .idle) : (airflow s).filt.check = s.filt.check := by
  have ha : (abortFilter s).filt.check = s.filt.check := by
    unfold abortFilter preemptCheck; split
    · rw [if_neg (by rintro (k | k) <;> exact absurd (h.symm.trans k) (by decide))]; rfl
    · rfl
  have hg : ∀ u, (updateGrant u).filt.check = u.filt.check := fun u => by unfold updateGrant; dsimp only; split <;> rfl
  have hi : ∀ u, (interlock u).filt.check = u.filt.check := fun u => by
    unfold interlock; split
    · exact takeDropout_check _
    · rfl
  have hs : ∀ u, (updateShort u).filt.check = u.filt.check := fun u => by
    unfold updateShort; dsimp only; split
    · rfl
    · split <;> rfl
  rw [airflow, hs, hi, hg, ha]

theorem raiseAll_check (cs : List HoldCause) : ∀ {s : State}, s.filt.check.state = .idle → (raiseAll cs s).filt.check = s.filt.check := by
  induction cs with
  | nil => intro s _; rfl
  | cons c cs ih =>
    intro s h
    have e : (publish (airflow (raiseCause c s))).filt.check = s.filt.check :=
      (airflow_check (by rw [raiseCause_check]; exact h)).trans (raiseCause_check c s)
    rw [raiseAll, ih (by rw [e]; exact h), e]

theorem clearAll_check (cs : List HoldCause) : ∀ {s : State}, s.filt.check.state = .idle → (clearAll cs s).filt.check = s.filt.check := by
  induction cs with
  | nil => intro s _; rfl
  | cons c cs ih =>
    intro s h
    have e : (publish (airflow (clearCause c s))).filt.check = s.filt.check :=
      (airflow_check (by rw [clearCause_check]; exact h)).trans (clearCause_check c s)
    rw [clearAll, ih (by rw [e]; exact h), e]

theorem holdSync_check {s : State} (h : s.filt.check.state = .idle) : (holdSync s).filt.check = s.filt.check := by
  unfold holdSync; dsimp only; split
  · exact clearAll_check _ h
  · split
    · exact raiseAll_check _ h
    · split
      · have e := raiseAll_check (causesToRaise s) (s := nextFree s) h
        rw [clearAll_check _ (by rw [e]; exact h), e]; rfl
      · have e := clearAll_check (causesToClear s) (s := nextFree s) h
        rw [raiseAll_check _ (by rw [e]; exact h), e]; rfl

theorem airAndHolds_check {s : State} (h : s.filt.check.state = .idle) : (airAndHolds s).filt.check = s.filt.check := by
  have hp : ∀ u : State, u.filt.check = s.filt.check → (holdSync (publish (airflow u))).filt.check = s.filt.check := fun u e => by
    have k : (publish (airflow u)).filt.check = s.filt.check := (airflow_check (by rw [e]; exact h)).trans e
    rw [holdSync_check (by rw [k]; exact h), k]
  unfold airAndHolds; split
  · split
    · exact hp _ rfl
    · have k : (holdSync (nextFree s)).filt.check = s.filt.check := holdSync_check h
      rw [airflow_check (by rw [k]; exact h), k]
  · exact hp s rfl

/-- What follows from a change leaves a check that is IDLE as it is. -/
theorem settleRound_check {s : State} (h : s.filt.check.state = .idle) : (settleRound s).filt.check = s.filt.check := by
  have h1 : (publish (roomSync (drainSync (tankSync (supplySync s))))).filt.check = s.filt.check := by
    have hs : (supplySync s).filt.check = s.filt.check := by
      unfold supplySync; dsimp only; split
      · rfl
      · split
        · split
          · rfl
          · split <;> rfl
        · rfl
    have hd : ∀ u : State, (drainSync u).filt.check = u.filt.check := fun u => by
      unfold drainSync; split
      · rfl
      · split
        · rfl
        · split <;> rfl
    have hr : ∀ u : State, (roomSync u).filt.check = u.filt.check := fun u => by
      unfold roomSync; split
      · split
        · rfl
        · split <;> rfl
      · rfl
    rw [show ∀ u : State, (publish u).filt.check = u.filt.check from fun _ => rfl, hr, hd, ← hs]; rfl
  unfold settleRound; dsimp only
  generalize publish (roomSync (drainSync (tankSync (supplySync s)))) = u at *
  have h2 : (airAndHolds u).filt.check = s.filt.check := (airAndHolds_check (by rw [h1]; exact h)).trans h1
  generalize airAndHolds u = v at *
  have h3 : (checkSync v).filt.check = s.filt.check := by
    unfold checkSync
    simp [State.checkBusy, h2, h]
  generalize checkSync v = w at *
  have h4 : (lossSync (timerSync (stopSync (demandSync w)))).filt.check = s.filt.check := by
    have hl : ∀ u : State, (lossSync u).filt.check = u.filt.check := fun u => by unfold lossSync; split <;> rfl
    have ht : ∀ u : State, (timerSync u).filt.check = u.filt.check := fun u => by
      unfold timerSync; split
      · rfl
      · split <;> rfl
    have hs : ∀ u : State, (stopSync u).filt.check = u.filt.check := fun u => by
      unfold stopSync; split
      · exact endStop_check u
      · rfl
    have hd : ∀ u : State, (demandSync u).filt.check = u.filt.check := fun u => by unfold demandSync; split <;> rfl
    rw [hl, ht, hs, hd, h3]
  generalize lossSync (timerSync (stopSync (demandSync w))) = x at *
  have hx : x.filt.check.state = .idle := by rw [h4]; exact h
  have hc : ∀ {u : State}, u.filt.check.state = .idle → checkStartSync u = u := fun {u} e => by
    unfold checkStartSync; rw [if_neg (fun k => absurd (e.symm.trans k.2.1) (by decide))]
  have h5 : ∀ {u : State}, u.filt.check.state = .idle → (startSync u).filt.check = u.filt.check := fun {u} e => by
    have hb : (if u.attemptDue then beginAttempt u else u).filt.check = u.filt.check := by split <;> rfl
    have hw : ∀ y : State, (waitSync y).filt.check = y.filt.check := fun y => by
      unfold waitSync; split
      · split
        · rfl
        · split
          · exact enterStarting_check y
          · rfl
      · rfl
    unfold startSync
    rw [hw, airflow_check (by rw [hb]; exact e), hb]
  have h6 : (startsSync x).filt.check = s.filt.check := by
    unfold startsSync
    rw [if_neg (fun k => absurd (hx.symm.trans k.1.2.1) (by decide)), hc (by rw [h5 hx]; exact hx), h5 hx, h4]
  show (airflow (idleSync (startsSync x))).filt.check = s.filt.check
  have h7 : (idleSync (startsSync x)).filt.check = s.filt.check := h6
  rw [airflow_check (by rw [h7]; exact h), h7]

theorem settleRounds_check (n : Nat) : ∀ {s : State}, s.filt.check.state = .idle → (settleRounds n s).filt.check = s.filt.check := by
  induction n with
  | zero => intro s _; rfl
  | succ n ih => intro s h; rw [settleRounds, ih (by rw [settleRound_check h]; exact h), settleRound_check h]

theorem settle_check {s : State} (h : s.filt.check.state = .idle) : (settle s).filt.check = s.filt.check := settleRounds_check _ h

/-! A change with no consequences -/

/-- A state from which nothing more follows. -/
def State.quiet (s : State) : Prop := settleRound s = s

theorem settleRounds_quiet (n : Nat) {s : State} (h : s.quiet) : settleRounds n s = s := by
  induction n with
  | zero => rfl
  | succ n ih => rw [settleRounds, h, ih]

/-- Where nothing follows and no input of the pump's start triggers changes, the change is the whole effect, but for the order of the
entries it adds to the pending list. -/
theorem event_quiet {f : State → State} {s : State} (h : (f s).quiet) (hp : pumpInputsChanged s (f s) = false) :
    event f s = inIdOrder s (f s) := by
  have e : settle (f s) = f s := settleRounds_quiet _ h
  unfold event
  rw [e]
  simp [hp]

/-- After an event the entries it has added stand in order of event id. -/
theorem event_added (f : State → State) (s : State) :
    ((event f s).ev.list.drop s.ev.list.length).Pairwise fun a b => a.id ≤ b.id := inIdOrder_added s _

end Sys2Proof.Machine
end

