-- ==== Sys2Proof/Laws/StepMoves.lean ====
section
/-! SUPPORT. The moves of an event with all that follows from it, of a tick, a reset, a request and a command. -/

namespace Sys2Proof.Machine

/-! What follows from a change -/

theorem supplySync_moves (s : State) : Moves s (supplySync s) := by
  unfold supplySync; dsimp only
  refine .cond (fun _ => .of_eq rfl) (fun _ => ?_)
  split
  · exact .cond (fun _ => .of_eq rfl) fun _ => .cond (fun _ => .of_eq rfl) fun _ => .refl s
  · exact .refl s

theorem roomSync_moves (s : State) : Moves s (roomSync s) := by
  unfold roomSync; split
  · exact .cond (fun _ => .of_eq rfl) fun _ => .cond (fun _ => .of_eq rfl) fun _ => .refl s
  · exact .refl s

theorem raiseAll_moves (cs : List HoldCause) : ∀ s : State, Moves s (raiseAll cs s) := by
  induction cs with
  | nil => exact .refl
  | cons c cs ih =>
    intro s; exact (((raiseCause_moves c s).trans (airflow_moves _)).trans (publish_moves _)).trans (ih _)

theorem clearAll_moves (cs : List HoldCause) : ∀ s : State, Moves s (clearAll cs s) := by
  induction cs with
  | nil => exact .refl
  | cons c cs ih =>
    intro s; exact (((clearCause_moves c s).trans (airflow_moves _)).trans (publish_moves _)).trans (ih _)

theorem nextFree_moves (s : State) : Moves s (nextFree s) := .of_eq rfl

theorem holdSync_moves (s : State) : Moves s (holdSync s) := by
  unfold holdSync; dsimp only
  exact .cond (fun _ => clearAll_moves _ s) fun _ => .cond (fun _ => raiseAll_moves _ s) fun _ =>
    .cond (fun _ => ((nextFree_moves s).trans (raiseAll_moves _ _)).trans (clearAll_moves _ _))
      (fun _ => ((nextFree_moves s).trans (clearAll_moves _ _)).trans (raiseAll_moves _ _))

theorem airAndHolds_moves (s : State) : Moves s (airAndHolds s) := by
  unfold airAndHolds
  exact .cond
    (fun _ => .cond
      (fun _ => (((nextFree_moves s).trans (airflow_moves _)).trans (publish_moves _)).trans (holdSync_moves _))
      (fun _ => ((nextFree_moves s).trans (holdSync_moves _)).trans (airflow_moves _)))
    (fun _ => ((airflow_moves s).trans (publish_moves _)).trans (holdSync_moves _))

theorem checkSync_moves (s : State) : Moves s (checkSync s) := by
  unfold checkSync; dsimp only
  refine .cond (fun _ => endCheck_moves _ s) fun _ => .cond (fun h => .one (.check _ .sampling ?_) rfl) fun _ =>
    .cond (fun h => ?_) fun _ => .refl s
  · simp [State.core, CheckState.busy, h.1]
  · refine Moves.trans (t := s.setCheck { s.filt.check with state := .waiting, samples := 0, sum := 0 })
      (.one (.check _ .waiting ?_) rfl) ?_
    · simp [State.core, CheckState.busy, h.1]
    · exact .cond (fun _ => endCheck_moves _ _) (fun _ => .refl _)

theorem demandSync_moves (s : State) : Moves s (demandSync s) := by
  unfold demandSync
  exact .cond (fun _ => .of_eq rfl) (fun _ => .refl s)

theorem stopSync_moves (s : State) : Moves s (stopSync s) := by
  unfold stopSync
  exact .cond (fun h => endStop_moves s h.1) (fun _ => .refl s)

theorem timerSync_moves (s : State) : Moves s (timerSync s) := by
  unfold timerSync
  exact .cond (fun _ => .of_eq rfl) fun _ => .cond (fun _ => .of_eq rfl) fun _ => .refl s

theorem lossSync_moves (s : State) : Moves s (lossSync s) := by
  unfold lossSync
  exact .cond (fun h => enterStopping_moves _ s ⟨h.1.1, .inr h.1.2⟩) (fun _ => .refl s)

theorem waitSync_moves (s : State) : Moves s (waitSync s) := by
  unfold waitSync
  exact .cond
    (fun h => .cond (fun _ => .of_eq rfl)
      fun k => .cond (fun _ => enterStarting_moves s h.1 (Classical.not_not.mp k).2.2.2.2.1) fun _ => .refl s)
    (fun _ => .refl s)

theorem startSync_moves (s : State) : Moves s (startSync s) := by
  unfold startSync
  have h : Moves s (if s.attemptDue then beginAttempt s else s) := .cond (fun _ => .of_eq rfl) (fun _ => .refl s)
  exact (h.trans (airflow_moves _)).trans (waitSync_moves _)

theorem checkStartSync_moves (s : State) : Moves s (checkStartSync s) := by
  unfold checkStartSync
  exact .cond (fun h => (startCheck_moves s h.2.2.2.2.2.1).trans (airflow_moves _)) (fun _ => .refl s)

theorem startsSync_moves (s : State) : Moves s (startsSync s) := by
  unfold startsSync
  exact .cond
    (fun _ => .cond (fun _ => ((nextFree_moves s).trans (startSync_moves _)).trans (checkStartSync_moves _))
      (fun _ => ((nextFree_moves s).trans (checkStartSync_moves _)).trans (startSync_moves _)))
    (fun _ => (startSync_moves s).trans (checkStartSync_moves _))

theorem idleSync_moves (s : State) : Moves s (idleSync s) := .of_eq rfl

theorem settleRound_moves (s : State) : Moves s (settleRound s) := by
  unfold settleRound
  exact (((supplySync_moves s).trans (tankSync_moves _)).trans (drainSync_moves _)).trans (roomSync_moves _)
    |>.trans (publish_moves _) |>.trans (airAndHolds_moves _) |>.trans (checkSync_moves _) |>.trans (demandSync_moves _)
    |>.trans (stopSync_moves _) |>.trans (timerSync_moves _) |>.trans (lossSync_moves _) |>.trans (startsSync_moves _)
    |>.trans (idleSync_moves _) |>.trans (airflow_moves _) |>.trans (publish_moves _)

theorem settleRounds_moves (n : Nat) : ∀ s : State, Moves s (settleRounds n s) := by
  induction n with
  | zero => exact .refl
  | succ n ih => intro s; exact (settleRound_moves s).trans (ih _)

theorem settle_moves (s : State) : Moves s (settle s) := settleRounds_moves _ s

theorem inIdOrder_moves (s t : State) : Moves t (inIdOrder s t) := .one (.order _ _ (inIdOrder_perm s t)) rfl

/-- Everything that follows from a change is moves. -/
theorem event_moves (f : State → State) (s : State) : Moves (f s) (event f s) := by
  unfold event; dsimp only
  exact Moves.trans (.cond (fun _ => (settle_moves _).trans (autoPump_moves _)) (fun _ => settle_moves _)) (inIdOrder_moves s _)

/-- A request for several channels, taken on each in turn. -/
theorem eachInTurn_moves (f : Channel → State → State) (h : ∀ c s, Moves s (f c s)) (cs : List Channel) :
    ∀ s : State, Moves s (eachInTurn f cs s) := by
  intro s
  fun_induction eachInTurn f cs s with
  | case1 s => exact .refl s
  | case2 c s => exact h c s
  | case3 c d cs s ih => exact ((h c s).trans (event_moves _ s)).trans ih

/-! The tick -/

theorem testWeak_normal {s : State} (h : s.runningNormal) : (testWeak s).runningNormal := by
  unfold testWeak; split <;> exact h

theorem runningTick_moves (s : State) (h : s.runningNormal) : Moves s (runningTick s) := by
  unfold runningTick; dsimp only
  have k := testWeak_normal h
  refine (testWeak_moves s).trans ?_
  exact .cond (fun _ => compFailure_moves _ _ ⟨k.1, .inr k.2⟩) fun _ => .cond (fun _ => enterStopping_moves _ _ ⟨k.1, .inr k.2⟩) fun _ =>
    .cond (fun _ => enterDefrost_moves _ k) fun _ => .refl _

theorem endLockout_moves (s : State) (h : s.lockoutDue) : Moves s (endLockout s) := .one (.unlock _ ⟨h.1, h.2.1, h.2.2.2⟩) rfl

theorem dryTick_moves (s : State) : Moves s (dryTick s) := by
  unfold dryTick; split
  · exact .refl s
  · exact .cond (fun h => endDefrost_moves _ s h.1) (fun _ => .refl s)
  · next hl =>
    split
    · exact .cond (fun _ => .of_eq rfl) fun _ => .cond (fun _ => .of_eq rfl) fun _ => .cond (fun _ => .of_eq rfl) fun _ =>
        .cond (fun _ => .of_eq rfl) fun _ => .refl s
    · next hp =>
      exact .cond (fun _ => compFailure_moves _ s ⟨hl, .inl hp⟩) fun _ => .cond (fun _ => judgeStart_moves s ⟨hl, hp⟩) fun _ => .refl s
    · next hp => exact runningTick_moves s ⟨hl, hp⟩
    · next hp => exact .cond (fun _ => endRunOn_moves s ⟨hl, hp⟩) (fun _ => .refl s)
    · exact .cond (fun h => endLockout_moves s h) (fun _ => .refl s)

theorem checkTick_moves (s : State) : Moves s (checkTick s) := by
  unfold checkTick
  exact .cond (fun _ => .of_eq rfl) fun _ => .cond (fun _ => endCheck_moves _ s) fun _ => .refl s

theorem boostTick_moves (s : State) : Moves s (boostTick s) := by
  unfold boostTick
  exact .cond (fun _ => .of_eq rfl) (fun _ => .refl s)

theorem drainTick_moves (s : State) : Moves s (drainTick s) := by
  unfold drainTick
  exact .cond (fun _ => .of_eq rfl) (fun _ => .refl s)

theorem silenceTick_moves (s : State) : Moves s (silenceTick s) := by
  unfold silenceTick
  exact .cond (fun _ => .of_eq rfl) (fun _ => .refl s)

theorem warmTick_moves (s : State) : Moves s (warmTick s) := changeChan_moves _ _ _ (warmedUp_sound _)

theorem tickLate_moves (s : State) : Moves s (tickLate s) :=
  (boostTick_moves s).trans (warmTick_moves _) |>.trans (cleanTick_moves _) |>.trans (drainTick_moves _) |>.trans (pumpTick_moves _)
    |>.trans (checkTick_moves _) |>.trans (serviceTick_moves _) |>.trans (silenceTick_moves _)

theorem closeTick_moves (s : State) : Moves s (closeTick s) := .of_eq rfl

/-- A tick: the counts, and then moves. -/
theorem jobTick_moves (s : State) : Moves (tickCounts s) (jobTick s) := by
  have h : Moves (tickCounts s) (tickEarly s) := (fanTick_moves _).trans (dryTick_moves _)
  exact h.trans (event_moves _ _) |>.trans (tickLate_moves _) |>.trans (event_moves _ _) |>.trans (inIdOrder_moves s _)
    |>.trans (closeTick_moves _)

/-! Resets -/

theorem setEv_moves (s : State) (x : Events) (one : x.list = [] ∨ ∃ e : EventEntry, x.list = [e] ∧ e.count = 1) : Moves s (s.setEv x) :=
  .one (.entries _ x.list one) rfl

theorem chansAtReset_sound (ch : Channel) : (chansAtReset.get ch).Sound := by
  cases ch <;> simp [chansAtReset, PerChannel.get, Chan.atReset, Chan.Sound]

theorem resetBlocks_moves (r : Resets) (s : State) : Moves s (resetBlocks r s) := by
  refine .one (.reset _ (resetBlocks r s).ev.list chansAtReset .idle 0 0 (.inr ⟨_, rfl, rfl⟩) (fun ch _ => chansAtReset_sound ch) ?_) rfl
  simp [CheckState.busy]

theorem inReset_moves (r : Resets) (s : State) : Moves s (inReset r s) := by
  exact (resetBlocks_moves { r with inReset := true } s).trans (setEv_moves _ _ (.inl rfl))

theorem leaveReset_moves (r : Resets) (s : State) : Moves s (leaveReset r s) := by
  exact ((resetBlocks_moves { r with inReset := false } s).trans (settle_moves _)).trans (setEv_moves _ _ (.inr ⟨_, rfl, rfl⟩))

theorem afterRelease_moves (r : Resets) (s : State) : Moves s (afterRelease r s) := by
  unfold afterRelease
  exact .cond (fun _ => leaveReset_moves r s) (fun _ => .of_eq rfl)

theorem assertSource_moves (c : ResetCause) (r : Resets) (s : State) : Moves s (assertSource c r s) := by
  unfold assertSource
  exact .cond (fun _ => .of_eq rfl) (fun _ => inReset_moves _ s)

theorem cutSupply_moves (s : State) : Moves s (cutSupply s) := by
  unfold cutSupply; dsimp only
  exact .cond (fun _ => .of_eq rfl) (fun _ => assertSource_moves _ _ s)

theorem crossSupply_moves (b : Bool) (s : State) : Moves s (crossSupply b s) := .of_eq rfl

theorem releaseCut_moves (s : State) : Moves s (releaseCut s) := by
  unfold releaseCut
  exact .cond (fun _ => afterRelease_moves _ s) (fun _ => .refl s)

theorem softReset_sound (plan : List Channel) (ch : Channel) (c : Chan) : (c.softReset (softState plan ch)).Sound := by
  have h : softState plan ch ≠ .qualified := by unfold softState; split <;> (try split) <;> simp
  simp [Chan.Sound, Chan.softReset, Chan.restart, h]

theorem softBlocks_moves (s : State) : Moves s (softBlocks s) := by
  refine .one (.reset _ s.ev.list (s.chans.map fun ch c => c.softReset (softState s.scan.plan ch)) .idle
    s.time.uptime s.time.uptime (.inl rfl) (fun ch _ => ?_) ?_) rfl
  · cases ch <;> exact softReset_sound _ _ _
  · simp [CheckState.busy]

theorem softResetDue_moves (s : State) (h : s.filt.check.state = .idle) : Moves s (softResetDue s) := by
  unfold softResetDue; dsimp only
  refine .cond (fun _ => .one (.check _ .due ?_) rfl) (fun _ => .refl s)
  simp [State.core, CheckState.busy, h]

theorem softReset_moves (s : State) : Moves s (softReset s) := by
  have h := softResetDue_moves (settle (softBlocks s)) (by rw [settle_check rfl]; rfl)
  exact (((softBlocks_moves s).trans (settle_moves _)).trans h).trans (setEv_moves _ _ (.inr ⟨_, rfl, rfl⟩))

/-! Requests -/

theorem accept_moves {f : State → State} {p : State → List Byte} {s : State} (h : Moves s (f s)) : Moves s (accept f p s).1 := by
  simp only [accept]
  exact Moves.trans h (event_moves f s)

theorem acceptAhead_moves {f : State → State} {p : State → List Byte} {s : State} (h : Moves s (f s)) :
    Moves s (acceptAhead f p s).1 := h.trans (event_moves f s)

theorem refuse_moves (r : Reason) (d : Nat) (s : State) : Moves s (refuse r d s).1 := .refl s

theorem answerWith_moves (p : List Byte) (s : State) : Moves s (answerWith p s).1 := .refl s

theorem fst_moves {p : Prop} [Decidable p] {s : State} {a b : Taken} (ha : p → Moves s a.1) (hb : ¬ p → Moves s b.1) :
    Moves s (if p then a else b).1 := by
  split
  · exact ha ‹_›
  · exact hb ‹_›

theorem applyItem_moves (id index : Nat) (value : List Byte) (s : State) : Moves s (applyItem id index value s) := by
  have hc : ∀ f u, Moves s (changeClean f (s.setSetup u)) := fun f u => .from_eq (changeClean_moves f _) rfl
  unfold applyItem; dsimp only
  split
  all_goals first
    | exact applyDrain_moves _ s
    | exact eachInTurn_moves _ (fun _ s => changeChan_moves _ _ s (setThreshold_sound _ _)) _ s
    | exact eachInTurn_moves _ (fun _ s => changeChan_moves _ _ s (setLimit_sound _ _)) _ s
    | exact hc _ _
    | exact .from_eq (testInterval_moves _) rfl
    | exact .of_eq rfl

theorem takeSetupSet_moves (i x : Byte) (v : List Byte) (s : State) : Moves s (takeSetupSet i x v s).1 := by
  unfold takeSetupSet; dsimp only
  refine fst_moves (fun _ => .refl s) fun _ => fst_moves (fun _ => .refl s) fun _ => fst_moves (fun _ => .refl s) fun _ => ?_
  split
  · exact .refl s
  · exact accept_moves (applyItem_moves _ _ _ s)

theorem takeSetupGet_moves (i x : Byte) (s : State) : Moves s (takeSetupGet i x s).1 := by
  unfold takeSetupGet
  refine fst_moves (fun _ => .refl s) fun _ => ?_
  split <;> exact .refl s

theorem takeStart_moves (s : State) : Moves s (takeStart s).1 := by
  unfold takeStart
  refine fst_moves (fun _ => .refl s) fun _ => ?_
  split
  · exact .refl s
  · exact accept_moves (.of_eq rfl)

theorem takeReset_moves (x : Byte) (s : State) : Moves s (takeReset x s).1 := by
  unfold takeReset
  exact fst_moves (fun _ => .refl s) fun _ => fst_moves (fun _ => .refl s) fun _ => .refl s

theorem takeCleanMode_moves (m l : Byte) (s : State) : Moves s (takeCleanMode m l s).1 := by
  unfold takeCleanMode
  refine fst_moves (fun _ => .refl s) fun _ => ?_
  split
  · exact .refl s
  · exact fst_moves (fun _ => .refl s) fun _ => accept_moves (applyCleanMode_moves _ _ s)

theorem takeDryMode_moves (m p : Byte) (s : State) : Moves s (takeDryMode m p s).1 := by
  unfold takeDryMode
  refine fst_moves (fun _ => .refl s) fun _ => fst_moves (fun _ => .refl s) fun _ => ?_
  split
  · exact .refl s
  · exact fst_moves (fun _ => .refl s) fun _ => accept_moves (applyDryMode_moves _ _ s)

theorem takeFanCeiling_moves (l : Byte) (s : State) : Moves s (takeFanCeiling l s).1 := by
  unfold takeFanCeiling
  exact fst_moves (fun _ => .refl s) fun _ => fst_moves (fun _ => .refl s) fun _ => accept_moves (.of_eq rfl)

theorem applyBoost_moves (l d : Nat) (s : State) : Moves s (applyBoost l d s) := by
  unfold applyBoost
  exact .cond (fun _ => .of_eq rfl) (fun _ => .of_eq rfl)

theorem takeFanBoost_moves (l : Byte) (d : Half) (s : State) : Moves s (takeFanBoost l d s).1 := by
  unfold takeFanBoost
  exact fst_moves (fun _ => .refl s) fun _ => fst_moves (fun _ => .refl s) fun _ => fst_moves (fun _ => .refl s) fun _ =>
    accept_moves (applyBoost_moves _ _ s)

theorem takeStatus_moves (p : Byte) (s : State) : Moves s (takeStatus p s).1 := by
  unfold takeStatus
  exact fst_moves (fun _ => .refl s) fun _ => .refl s

theorem takeChannelGet_moves (c : Byte) (s : State) : Moves s (takeChannelGet c s).1 := by
  unfold takeChannelGet; split <;> exact .refl s

theorem takeEventsRead_moves (s : State) : Moves s (takeEventsRead s).1 := .one (.read _) rfl

theorem takeWatchSet_moves (r f : BitVec 24) (o a : Byte) (s : State) : Moves s (takeWatchSet r f o a s).1 := by
  unfold takeWatchSet; dsimp only
  exact fst_moves (fun _ => .refl s) fun _ => fst_moves (fun _ => .refl s) fun _ => fst_moves (fun _ => .refl s) fun _ =>
    fst_moves (fun _ => .refl s) fun _ => .of_eq rfl

theorem takeFaultClear_moves (x c : Byte) (s : State) : Moves s (takeFaultClear x c s).1 := by
  unfold takeFaultClear; dsimp only; split
  · exact accept_moves (clearFan_moves s)
  · exact accept_moves (.of_eq rfl)
  · exact accept_moves (.of_eq rfl)
  · exact .of_eq rfl
  · exact fst_moves (fun _ => .refl s) fun _ => accept_moves (eachInTurn_moves _ clearChannel_moves _ s)
  · exact .refl s

theorem applyFit_moves (n : Slot) (k : RatingKind) (p : FitParams) (s : State) : Moves s (applyFit n k p s) := by
  unfold applyFit; dsimp only
  exact .cond (fun _ => .from_eq (fitCheck_moves _ _) rfl) (fun _ => .of_eq rfl)

theorem takeFilterFit_moves (p : FitParams) (s : State) : Moves s (takeFilterFit p s).1 := by
  unfold takeFilterFit
  refine fst_moves (fun _ => .refl s) fun _ => fst_moves (fun _ => .refl s) fun _ => ?_
  split
  · exact .refl s
  · refine fst_moves (fun _ => .refl s) fun _ => ?_
    split
    · exact .refl s
    · split
      · exact .refl s
      · exact fst_moves (fun _ => .refl s) fun _ => fst_moves (fun _ => .refl s) fun _ => accept_moves (applyFit_moves _ _ _ s)

theorem applyRemove_moves (n : Slot) (s : State) : Moves s (applyRemove n s) := by
  unfold applyRemove; dsimp only
  exact .cond (fun _ => .refl s) (fun _ => .cond (fun _ => .from_eq (removeCheck_moves _) rfl) (fun _ => .of_eq rfl))

theorem takeFilterRemove_moves (x : Byte) (s : State) : Moves s (takeFilterRemove x s).1 := by
  unfold takeFilterRemove
  refine fst_moves (fun _ => .refl s) fun _ => ?_
  split
  · exact .refl s
  · exact fst_moves (fun _ => .refl s) fun _ => accept_moves (applyRemove_moves _ s)

theorem takeFilterGet_moves (x : Byte) (s : State) : Moves s (takeFilterGet x s).1 := by
  unfold takeFilterGet; split <;> exact .refl s

theorem takeFilterCheck_moves (s : State) : Moves s (takeFilterCheck s).1 := by
  unfold takeFilterCheck
  exact fst_moves (fun _ => .refl s) fun _ => fst_moves (fun _ => .refl s) fun _ => fst_moves (fun _ => .refl s) fun _ =>
    acceptAhead_moves (requestCheck_moves s)

theorem takePumpRun_moves (s : State) : Moves s (takePumpRun s).1 := by
  unfold takePumpRun
  exact fst_moves (fun _ => .refl s) fun _ => fst_moves (fun _ => .refl s) fun _ => fst_moves (fun _ => .refl s) fun _ =>
    fst_moves (fun _ => .refl s) fun _ => fst_moves (fun _ => .refl s) fun _ => fst_moves (fun _ => .refl s) fun _ =>
    accept_moves (startPump_moves _ s)

theorem cancelPump_moves (s : State) : Moves s (cancelPump s) := by
  unfold cancelPump
  exact .cond (fun _ => endPump_moves _ s) (fun _ => .refl s)

theorem takePumpCancel_moves (s : State) : Moves s (takePumpCancel s).1 := by
  unfold takePumpCancel
  exact fst_moves (fun _ => .refl s) fun _ => fst_moves (fun _ => .refl s) fun _ => accept_moves (cancelPump_moves s)

theorem takeSubstSet_moves (c k : Byte) (p : List Byte) (s : State) : Moves s (takeSubstSet c k p s).1 := by
  unfold takeSubstSet; split
  · exact .refl s
  · dsimp only
    refine fst_moves (fun _ => .refl s) fun _ => fst_moves (fun _ => ?_) fun _ => fst_moves (fun _ => .refl s) fun _ => ?_
    · exact fst_moves (fun _ => .refl s) fun _ => fst_moves (fun _ => .refl s) fun _ => accept_moves (applySubst_moves _ _ _ s)
    · split
      · exact .refl s
      · exact accept_moves (applySubst_moves _ _ _ s)

theorem takeSubstClear_moves (c : Byte) (s : State) : Moves s (takeSubstClear c s).1 := by
  unfold takeSubstClear
  exact fst_moves (fun _ => .refl s) fun _ => accept_moves (eachInTurn_moves _ clearSubst_moves _ s)

theorem takeFanRun_moves (l d c : Nat) (s : State) : Moves s (takeFanRun l d c s).1 := by
  unfold takeFanRun
  exact fst_moves (fun _ => .refl s) fun _ => fst_moves (fun _ => .refl s) fun _ => fst_moves (fun _ => .refl s) fun _ =>
    fst_moves (fun _ => .refl s) fun _ => accept_moves (startFanRun_moves _ _ _ s)

theorem takeCompressorRun_moves (d : Nat) (s : State) : Moves s (takeCompressorRun d s).1 := by
  unfold takeCompressorRun
  exact fst_moves (fun _ => .refl s) fun _ => fst_moves (fun _ => .refl s) fun _ => fst_moves (fun _ => .refl s) fun _ =>
    accept_moves (.of_eq rfl)

theorem takeServicePump_moves (s : State) : Moves s (takeServicePump s).1 := by
  unfold takeServicePump
  exact fst_moves (fun _ => .refl s) fun _ => fst_moves (fun _ => .refl s) fun _ => fst_moves (fun _ => .refl s) fun _ =>
    fst_moves (fun _ => .refl s) fun _ => fst_moves (fun _ => .refl s) fun _ => accept_moves (startPumpRun_moves s)

theorem takeServiceRun_moves (k : Byte) (p : List Byte) (s : State) : Moves s (takeServiceRun k p s).1 := by
  unfold takeServiceRun
  refine fst_moves (fun _ => .refl s) fun _ => fst_moves (fun _ => .refl s) fun _ => fst_moves (fun _ => .refl s) fun _ =>
    fst_moves (fun _ => .refl s) fun _ => ?_
  split
  · exact takeFanRun_moves _ _ _ s
  · exact takeCompressorRun_moves _ s
  · exact takeServicePump_moves s

theorem takeServiceStop_moves (s : State) : Moves s (takeServiceStop s).1 := by
  unfold takeServiceStop
  exact fst_moves (fun _ => .refl s) fun _ => accept_moves (stopService_moves s)

theorem take_moves (r : Request) (s : State) : Moves s (take r s).1 := by
  cases r with
  | ident => exact .refl s
  | setupSet i x v => exact takeSetupSet_moves i x v s
  | setupGet i x => exact takeSetupGet_moves i x s
  | start => exact takeStart_moves s
  | reset x => exact takeReset_moves x s
  | cleanMode m l => exact takeCleanMode_moves m l s
  | dryMode m p => exact takeDryMode_moves m p s
  | fanCeiling l => exact takeFanCeiling_moves l s
  | fanBoost l d => exact takeFanBoost_moves l d s
  | status p => exact takeStatus_moves p s
  | channelGet c => exact takeChannelGet_moves c s
  | eventsRead => exact takeEventsRead_moves s
  | watchSet r f o a => exact takeWatchSet_moves r f o a s
  | faultClear x c => exact takeFaultClear_moves x c s
  | filterFit p => exact takeFilterFit_moves p s
  | filterRemove x => exact takeFilterRemove_moves x s
  | filterGet x => exact takeFilterGet_moves x s
  | filterCheck => exact takeFilterCheck_moves s
  | pumpRun => exact takePumpRun_moves s
  | pumpCancel => exact takePumpCancel_moves s
  | substSet c k p => exact takeSubstSet_moves c k p s
  | substClear c => exact takeSubstClear_moves c s
  | serviceRun k p => exact takeServiceRun_moves k p s
  | serviceStop => exact takeServiceStop_moves s
  | refusedByLink _ _ => exact .refl s

/-! The link -/

theorem takeRequest_moves (r : Request) (s : State) : Moves s (takeRequest r s) := (take_moves r s).to_eq rfl

theorem place_moves (r : Request) (s : State) : Moves s (place r s) := by
  unfold place
  exact .cond (fun _ => takeRequest_moves r s) fun _ => .cond (fun _ => .of_eq rfl) fun _ => .of_eq rfl

theorem clearSilence_moves (s : State) : Moves s (clearSilence s) := by
  unfold clearSilence
  exact .cond (fun _ => .from_eq (event_moves _ s) rfl) (fun _ => .of_eq rfl)

theorem arrive_moves (r : Request) (s : State) : Moves s (arrive r s) := (clearSilence_moves s).trans (place_moves r _)

theorem arriveBad_moves (s : State) : Moves s (arriveBad s) := .from_eq (place_moves _ _) rfl

theorem completeFrame_moves (k l : Byte) (p : List Byte) (c : Byte) (s : State) : Moves s (completeFrame k l p c s) := by
  unfold completeFrame; dsimp only
  refine Moves.trans (t := setReceiver .hunting s) (.of_eq rfl) ?_
  exact .cond (fun _ => arrive_moves _ _) (fun _ => arriveBad_moves _)

theorem receiveByte_moves (b : Byte) (s : State) : Moves s (receiveByte b s) := by
  unfold receiveByte; split
  · exact .cond (fun _ => .of_eq rfl) (fun _ => .refl s)
  · exact .of_eq rfl
  · exact .cond (fun _ => .of_eq rfl) (fun _ => .of_eq rfl)
  · exact .cond (fun _ => .of_eq rfl) (fun _ => completeFrame_moves _ _ _ _ s)

theorem receiveCheck_moves (b : Byte) (s : State) : Moves s (receiveCheck b s) := by
  unfold receiveCheck; split
  · exact .cond (fun _ => completeFrame_moves _ _ _ _ s) (fun _ => .refl s)
  · exact .refl s

theorem receiveOverlong_moves (b : Byte) (s : State) : Moves s (receiveOverlong b s) := by
  unfold receiveOverlong; split
  · exact .cond (fun _ => .of_eq rfl) (fun _ => .refl s)
  · exact .refl s

theorem expireGap_moves (s : State) : Moves s (expireGap s) := by
  unfold expireGap
  exact .cond (fun _ => .refl s) (fun _ => .of_eq rfl)

theorem takeHeld_moves (s : State) : Moves s (takeHeld s) := by
  unfold takeHeld; dsimp only; split
  · exact .from_eq (takeRequest_moves _ _) rfl
  · exact .of_eq rfl

theorem linkSoftReset_moves (s : State) : Moves s (linkSoftReset s) := (softReset_moves s).trans (takeHeld_moves _)

theorem linkFullReset_moves (s : State) : Moves s (linkFullReset s) := assertSource_moves _ _ s

theorem replySent_moves (s : State) : Moves s (replySent s) := by
  unfold replySent; split
  · exact .refl s
  · split
    · exact takeHeld_moves s
    · exact linkSoftReset_moves s
    · exact linkFullReset_moves s

/-! Commands -/

theorem live_moves {f : State → State} {s t : State} (h : live f s = .next t) (k : Moves s (f s)) : Moves s t := by
  unfold live at h; cases h
  exact .cond (fun _ => .refl s) (fun _ => k)

theorem liveEvent_moves {f : State → State} {s t : State} (h : live (event f) s = .next t) (k : Moves s (f s)) : Moves s t :=
  live_moves h (k.trans (event_moves f s))

theorem whenDue_moves {p : State → Prop} [DecidablePred p] {f : State → State} {s t : State} (h : whenDue p f s = .next t)
    (k : p s → Moves s (f s)) : Moves s t := by
  unfold whenDue at h
  exact live_moves h (.cond (fun hp => (k hp).trans (event_moves f s)) (fun _ => .refl s))

theorem whenTicking_moves {p : State → Prop} [DecidablePred p] {f : State → State} {s t : State} (h : whenTicking p f s = .next t)
    (k : p s → Moves s (f s)) : Moves s t := whenDue_moves h fun d => k d.2

theorem next_moves {u s t : State} (h : (Host.Outcome.next u : Result) = .next t) (k : Moves s u) : Moves s t := by
  cases h; exact k

theorem setInput_moves (i : InputPin) (x : Input) (s : State) : Moves s (setInput i x s) := by
  cases i <;> exact .of_eq rfl

theorem acceptCover_moves (s : State) : Moves s (acceptCover s) := by
  unfold acceptCover; dsimp only
  exact .cond (fun _ => .of_eq rfl) (fun _ => .of_eq rfl)

theorem acceptTank_moves (s : State) : Moves s (acceptTank s) := by
  unfold acceptTank; dsimp only
  exact .cond (fun _ => .of_eq rfl) (fun _ => .from_eq (tankPulled_moves _) rfl)

/-- Every command's effect on the core is moves, but for the counts of a tick. -/
theorem exec_moves (i : Instr) (s t : State) (hi : i ≠ .jobTick) (h : exec i s = .next t) : Moves s t := by
  cases i with
  | jobTick => exact absurd rfl hi
  | slotStart => simp only [exec, execSlotStart] at h; exact whenDue_moves h fun _ => startSlot_moves s
  | sampleDelivered raw => simp only [exec, execSampleDelivered] at h; exact whenDue_moves h fun _ => deliverSample_moves _ s
  | pmWarmupEnd => simp only [exec, execPmWarmupEnd] at h; exact whenDue_moves h fun _ => warmTick_moves s
  | defrostStopEnd => simp only [exec, execDefrostStopEnd] at h; exact whenDue_moves h fun k => endStop_moves s k.1
  | defrostEnd => simp only [exec, execDefrostEnd] at h; exact whenDue_moves h fun k => endDefrost_moves _ s k.1
  | coilFrostTrigger => simp only [exec, execCoilFrostTrigger] at h; exact whenDue_moves h fun k => enterDefrost_moves s k.1
  | periodicDefrostTrigger => simp only [exec, execPeriodicDefrostTrigger] at h; exact whenTicking_moves h fun k => enterDefrost_moves s k.1
  | lockoutEnd => simp only [exec, execLockoutEnd] at h; exact whenTicking_moves h fun k => endLockout_moves s k
  | startAttempt => simp only [exec, execStartAttempt] at h; exact whenDue_moves h fun _ => .of_eq rfl
  | fanReadyStart => simp only [exec, execFanReadyStart] at h; exact whenDue_moves h fun k => enterStarting_moves s k.1.1 k.2.1.2.2.2.2.1
  | startWaitTimeout => simp only [exec, execStartWaitTimeout] at h; exact whenDue_moves h fun _ => .of_eq rfl
  | retryWaitEnd => simp only [exec, execRetryWaitEnd] at h; exact whenDue_moves h fun _ => .of_eq rfl
  | currentCheck3 => simp only [exec, execCurrentCheck3] at h; exact whenDue_moves h fun k => compFailure_moves _ s ⟨k.1, .inl k.2.1⟩
  | startConfirmation => simp only [exec, execStartConfirmation] at h; exact whenDue_moves h fun k => judgeStart_moves s ⟨k.1, k.2.1⟩
  | minOnTimeStop => simp only [exec, execMinOnTimeStop] at h; exact whenDue_moves h fun k => enterStopping_moves _ s ⟨k.1.1, .inr k.1.2⟩
  | overcurrentTrip => simp only [exec, execOvercurrentTrip] at h; exact whenDue_moves h fun k => compFailure_moves _ s ⟨k.1.1, .inr k.1.2⟩
  | runOnEnd => simp only [exec, execRunOnEnd] at h; exact whenDue_moves h fun k => endRunOn_moves s ⟨k.1, k.2.1⟩
  | idleSampleStart => simp only [exec, execIdleSampleStart] at h; exact whenDue_moves h fun _ => .of_eq rfl
  | idleSampleEnd => simp only [exec, execIdleSampleEnd] at h; exact whenDue_moves h fun _ => .of_eq rfl
  | dryWeakRise => simp only [exec, execDryWeakRise] at h; exact whenTicking_moves h fun _ => testWeak_moves s
  | boostExpiry => simp only [exec, execBoostExpiry] at h; exact whenDue_moves h fun _ => .of_eq rfl
  | tachEdge n => simp only [exec, execTachEdge] at h; exact liveEvent_moves h (.of_eq rfl)
  | fanStall => simp only [exec, execFanStall] at h; exact whenDue_moves h fun _ => .of_eq rfl
  | fanRetry => simp only [exec, execFanRetry] at h; exact whenDue_moves h fun _ => .of_eq rfl
  | stallCountExpiry => simp only [exec, execStallCountExpiry] at h; exact whenDue_moves h fun _ => .of_eq rfl
  | cleanStepDown => simp only [exec, execCleanStepDown] at h; exact whenTicking_moves h fun _ => stepDown_moves s
  | carriedStepDown => simp only [exec, execCarriedStepDown] at h; exact whenTicking_moves h fun _ => carriedStepDown_moves s
  | cleanFallbackTimeout => simp only [exec, execCleanFallbackTimeout] at h; exact whenDue_moves h fun _ => cleanFallback_moves s
  | inputPinChange i l => simp only [exec, execInputPinChange] at h; exact next_moves h (setInput_moves _ _ s)
  | coverAccepted => simp only [exec, execCoverAccepted] at h; exact whenDue_moves h fun _ => acceptCover_moves s
  | tankInAccepted => simp only [exec, execTankInAccepted] at h; exact whenDue_moves h fun _ => acceptTank_moves s
  | floatAccepted => simp only [exec, execFloatAccepted] at h; exact whenDue_moves h fun _ => setInput_moves _ _ s
  | drainClear => simp only [exec, execDrainClear] at h; exact whenDue_moves h fun _ => .of_eq rfl
  | pumpRunStart => simp only [exec, execPumpRunStart] at h; exact whenDue_moves h fun _ => autoPump_moves s
  | pumpNoFlowTest => simp only [exec, execPumpNoFlowTest] at h; exact whenTicking_moves h fun _ => endPump_moves _ s
  | pumpBlindDone => simp only [exec, execPumpBlindDone] at h; exact whenDue_moves h fun _ => endPump_moves _ s
  | pumpTimeout => simp only [exec, execPumpTimeout] at h; exact whenDue_moves h fun _ => endPump_moves _ s
  | pumpRestEnd => simp only [exec, execPumpRestEnd] at h; exact whenDue_moves h fun k => endRest_moves s (pumpRested_state k)
  | checkStart => simp only [exec, execCheckStart] at h; exact whenDue_moves h fun k => startCheck_moves s k.2.2.2.2.2.1
  | checkRetryEnd => simp only [exec, execCheckRetryEnd] at h; exact whenDue_moves h fun _ => .of_eq rfl
  | checkTimeout => simp only [exec, execCheckTimeout] at h; exact whenDue_moves h fun _ => endCheck_moves _ s
  | serviceRunExpiry => simp only [exec, execServiceRunExpiry] at h; exact whenDue_moves h fun _ => stopService_moves s
  | linkSilent => simp only [exec, execLinkSilent] at h; exact whenTicking_moves h fun _ => .of_eq rfl
  | frameComplete c => simp only [exec, execFrameComplete] at h; exact live_moves h (receiveCheck_moves c s)
  | overlong c => simp only [exec, execOverlong] at h; exact live_moves h (receiveOverlong_moves c s)
  | truncated => simp only [exec, execTruncated] at h; exact live_moves h (expireGap_moves s)
  | byteReceived c => simp only [exec, execByteReceived] at h; exact live_moves h (receiveByte_moves c s)
  | replySent => simp only [exec, execReplySent] at h; exact live_moves h (replySent_moves s)
  | softReset => simp only [exec, execSoftReset] at h; exact live_moves h (.cond (fun _ => linkSoftReset_moves s) (fun _ => .refl s))
  | linkFullReset => simp only [exec, execLinkFullReset] at h; exact live_moves h (.cond (fun _ => linkFullReset_moves s) (fun _ => .refl s))
  | powerOn => simp only [exec, execPowerOn] at h; exact next_moves h (inReset_moves _ s)
  | resetNAssert => simp only [exec, execResetNAssert] at h; exact next_moves h (assertSource_moves _ _ s)
  | supplyCut => simp only [exec, execSupplyCut] at h; exact next_moves h (cutSupply_moves s)
  | supplySenseCrossing b => simp only [exec, execSupplySenseCrossing] at h; exact next_moves h (crossSupply_moves b s)
  | cutRelease => simp only [exec, execCutRelease] at h; exact next_moves h (releaseCut_moves s)
  | resetRelease x => simp only [exec, execResetRelease] at h; exact next_moves h (afterRelease_moves _ s)
  | ident => simp only [exec, execIdent] at h; exact live_moves h (arrive_moves _ s)
  | setupSet a b c => simp only [exec, execSetupSet] at h; exact live_moves h (arrive_moves _ s)
  | setupGet a b => simp only [exec, execSetupGet] at h; exact live_moves h (arrive_moves _ s)
  | start => simp only [exec, execStart] at h; exact live_moves h (arrive_moves _ s)
  | resetFull => simp only [exec, execResetFull] at h; exact live_moves h (arrive_moves _ s)
  | resetSoft => simp only [exec, execResetSoft] at h; exact live_moves h (arrive_moves _ s)
  | cleanMode a b => simp only [exec, execCleanMode] at h; exact live_moves h (arrive_moves _ s)
  | dryMode a b => simp only [exec, execDryMode] at h; exact live_moves h (arrive_moves _ s)
  | fanCeiling a => simp only [exec, execFanCeiling] at h; exact live_moves h (arrive_moves _ s)
  | fanBoost a b => simp only [exec, execFanBoost] at h; exact live_moves h (arrive_moves _ s)
  | status a => simp only [exec, execStatus] at h; exact live_moves h (arrive_moves _ s)
  | channelGet a => simp only [exec, execChannelGet] at h; exact live_moves h (arrive_moves _ s)
  | eventsRead => simp only [exec, execEventsRead] at h; exact live_moves h (arrive_moves _ s)
  | watchSet a b c d => simp only [exec, execWatchSet] at h; exact live_moves h (arrive_moves _ s)
  | faultClearFan a => simp only [exec, execFaultClearFan] at h; exact live_moves h (arrive_moves _ s)
  | faultClearCompressor a => simp only [exec, execFaultClearCompressor] at h; exact live_moves h (arrive_moves _ s)
  | faultClearPump a => simp only [exec, execFaultClearPump] at h; exact live_moves h (arrive_moves _ s)
  | faultClearLink a => simp only [exec, execFaultClearLink] at h; exact live_moves h (arrive_moves _ s)
  | faultClearChannel a => simp only [exec, execFaultClearChannel] at h; exact live_moves h (arrive_moves _ s)
  | filterFit a => simp only [exec, execFilterFit] at h; exact live_moves h (arrive_moves _ s)
  | filterRemove a => simp only [exec, execFilterRemove] at h; exact live_moves h (arrive_moves _ s)
  | filterGet a => simp only [exec, execFilterGet] at h; exact live_moves h (arrive_moves _ s)
  | filterCheck => simp only [exec, execFilterCheck] at h; exact live_moves h (arrive_moves _ s)
  | pumpRun => simp only [exec, execPumpRun] at h; exact live_moves h (arrive_moves _ s)
  | pumpCancel => simp only [exec, execPumpCancel] at h; exact live_moves h (arrive_moves _ s)
  | substSet a b c => simp only [exec, execSubstSet] at h; exact live_moves h (arrive_moves _ s)
  | substClear a => simp only [exec, execSubstClear] at h; exact live_moves h (arrive_moves _ s)
  | serviceRunFan a => simp only [exec, execServiceRunFan] at h; exact live_moves h (arrive_moves _ s)
  | serviceRunCompressor a => simp only [exec, execServiceRunCompressor] at h; exact live_moves h (arrive_moves _ s)
  | serviceRunPump a => simp only [exec, execServiceRunPump] at h; exact live_moves h (arrive_moves _ s)
  | serviceStop => simp only [exec, execServiceStop] at h; exact live_moves h (arrive_moves _ s)

/-- A job tick that is due, outside reset: the counts, and then moves. -/
theorem exec_jobTick_moves (s t : State) (hr : s.rst.inReset = false) (hd : s.tickDue) (h : exec .jobTick s = .next t) :
    Moves (tickCounts s) t := by
  have e : exec .jobTick s = .next (jobTick s) := by
    unfold exec execJobTick live; rw [if_neg (by simp [hr])]; dsimp only; rw [if_pos hd]
  rw [e] at h
  rw [← Host.Outcome.next.inj h]
  exact jobTick_moves s

/-- A job tick that is not due. -/
theorem exec_jobTick_undue (s : State) (hd : ¬ s.tickDue) : exec .jobTick s = .next s := by
  unfold exec execJobTick live; dsimp only; rw [if_neg hd]; simp

end Sys2Proof.Machine
end

