-- ==== Sys2Proof/Tests/Slice0.lean ====
section
/-! SUPPORT. The model's own tests: ill-formed commands, small runs of one step each, and for every obligation with hypotheses a state and
operands that meet them, clause by clause. -/

namespace Sys2Proof.Tests

open Sys2Proof.Machine

/-! Helpers -/

/-- The state after a command. -/
def did (i : Instr) (s : State) : State :=
  match exec i s with
  | .next t => t
  | _ => s

/-- The reply of the request being answered. -/
def replyOf (s : State) : List Byte :=
  match s.link.answer with
  | some a => a.reply
  | none => []

/-- The part in ACTIVE. -/
def active : State := State.reset.setLink { State.reset.link with part := .active }

/-- A channel QUALIFIED at a value. -/
def reading (c : Channel) (v : Int) (s : State) : State :=
  s.setChans (s.chans.set c { s.chan c with state := .qualified, value := some v, window := [v], run := 1 })

def drying (f : Drying → Drying) (s : State) : State := s.setDry (f s.dry)

def watering (f : Water → Water) (s : State) : State := s.setWater (f s.water)

def linking (f : Link → Link) (s : State) : State := s.setLink (f s.link)

def fanning (f : Fan → Fan) (s : State) : State := s.setFan (f s.fan)

def resetting (f : Resets → Resets) (s : State) : State := s.setRst (f s.rst)

/-- Uptime. -/
def at' (n : Nat) (s : State) : State := s.setTime { s.time with uptime := n }

/-- The number of slots that have begun in the second. -/
def slots (n : Nat) (s : State) : State := s.setTime { s.time with slot := n }

/-- A tick has been counted, and its tests are still to be made. -/
def ticking (s : State) : State := s.setTime { s.time with tested := false }

/-- ACTIVE in PUMP mode. -/
def pumps : State := active.setSetup { active.setup with optDrain := .pump }

/-- A measured pump run under way. -/
def pumping : State :=
  watering (fun w => { w with
    pumpOn := true, pump := { w.pump with
      state := .running, kind := some .level, startedAt := some 0, startLevel := some 700, latestLevel := some 300, elapsed := 20 } }) pumps

/-- A compressor run under way, with demand. -/
def drives : State :=
  fanning (fun f => { f with state := .running, atLevel := true })
    (drying (fun d => { d with mode := .continuous, demand := true, phase := .running, onTime := some 130 })
      ((at' 1000 active).setComp { request := true, on := true }))

/-- A start under way. -/
def starts : State := drying (fun d => { d with phase := .starting, onTime := some 0 }) drives

/-- Waiting in IDLE with demand. -/
def idles : State := drying (fun d => { d with mode := .continuous, demand := true, phase := .idle }) (at' 1000 active)

/-- A defrost in step STOP, and one in MELT. -/
def stops : State :=
  drying (fun d => { d with phase := .lockout, level := .defrost, step := some .stop, stepTimer := some 0,
                            slot1 := some ⟨.run, some .running, 1000, 0, 900, none, none, none, false⟩,
                            lastDefrost := some ⟨1000, none⟩ }) (at' 1000 active)

def melts : State := drying (fun d => { d with step := some .melt, stepTimer := none, melt := some 0 }) stops

/-- A hold with the given cause and an IDLE context. -/
def holds (c : HoldCause) : State :=
  drying (fun d => { d with level := .hold, holdSet := [c], slot2 := some ⟨.idle, none, 0, 0, 0, none, none, none, false⟩ }) active

/-- A conversion under way. -/
def converts (c : Channel) (s : State) : State := s.setScan { s.scan with converting := some c }

/-- The pressure slot fitted. -/
def fitted : State :=
  active.setSlot .fine { SlotRec.emptyWith false with state := .fitted, ratingKind := .hours, rated := 2000, capture := 90, riseLimit := 800 }

def checks (f : Check → Check) (s : State) : State := s.setCheck (f s.filt.check)

/-! Ill-formed commands -/

/-- A frame carries at most 200 bytes of payload. -/
theorem test_illformed_payloads_too_long :
    Instr.wellFormed (.setupSet 1#8 0#8 (List.replicate 199 0#8)) = false ∧
    Instr.wellFormed (.substSet 0#8 0#8 (List.replicate 199 0#8)) = false ∧
    Instr.wellFormed (.serviceRunFan (List.replicate 200 0#8)) = false ∧
    Instr.wellFormed (.serviceRunCompressor (List.replicate 200 0#8)) = false ∧
    Instr.wellFormed (.serviceRunPump (List.replicate 200 0#8)) = false := by decide +kernel

theorem test_illformed_tag_too_long :
    Instr.wellFormed (.filterFit ⟨0#8, 0#8, 1#32, 0#8, 0#16, List.replicate 13 65#8, .absent⟩) = false := by decide

theorem test_illformed_overlong_at_200 : Instr.wellFormed (.overlong 200#8) = false ∧ Instr.wellFormed (.overlong 201#8) = true := by decide

theorem test_illformed_tach_period_zero : Instr.wellFormed (.tachEdge 0) = false ∧ Instr.wellFormed (.tachEdge 1) = true := by decide

theorem test_no_word_is_a_command : decodeTableWord 8 0 = none ∧ State.reset.withFetchWord 8 0 = State.reset := by decide

/-! Power-up, the link and the layouts -/

/-- A power-up with the tank seated, the float down and the cover closed leads to the state named `State.reset`. -/
theorem test_power_up_reaches_reset :
    did (.resetRelease .powerOn) (did .cutRelease (did (.supplySenseCrossing true) (did .powerOn State.reset))) = State.reset := by
  decide +kernel

/-- The worked frame of the manual, as a row of bytes and as bytes received. -/
theorem test_ident_and_its_check :
    (crc8 [1#8, 0#8] = 0x15#8 ∧ frameOf 1#8 [] = [0xC3#8, 1#8, 0#8, 0x15#8]) ∧
    (did (.byteReceived 0x15#8) (did (.byteReceived 0#8) (did (.byteReceived 1#8) (did (.byteReceived 0xC3#8) State.reset)))).link.answer.map
      Answer.request = some .ident := by decide +kernel

theorem test_bad_check_is_answered_in_its_place :
    replyOf (did (.frameComplete 0x14#8) (linking (fun l => { l with receiver := .payload 1#8 0#8 [] }) State.reset)) =
      frameOf 127#8 [0#8, 10#8, 0#8] := by decide +kernel

theorem test_status_lengths : (statusPage State.reset 0).length = 87 ∧ (statusPage State.reset 1).length = 62 ∧
    (statusPage State.reset 2).length = 117 ∧ (statusPage State.reset 3).length = 67 := by decide +kernel

/-- Replies in SETUP: refused items and modes, an item in force, START, and the RESET entry read. -/
theorem test_replies_in_setup :
    replyOf (did (.setupGet 11#8 0#8) State.reset) = frameOf 127#8 [3#8, 3#8, 255#8] ∧
    replyOf (did (.setupGet 26#8 0#8) State.reset) = frameOf 131#8 [26#8, 0#8, 2#8, 8#8] ∧
    replyOf (did (.cleanMode 1#8 4#8) State.reset) = frameOf 127#8 [16#8, 4#8, 0#8] ∧
    ((did .start State.reset).link.part = .active ∧ replyOf (did .start State.reset) = frameOf 132#8 [1#8]) ∧
    (replyOf (did .eventsRead State.reset) = frameOf 162#8 [1#8, 0#8, 21#8, 2#8, 1#8, 0#8] ∧ (did .eventsRead State.reset).attn = false) := by decide +kernel

/-! The blocks -/

theorem test_scaled_values : Channel.rh.scaled 2048 = 500 ∧ Channel.rh.scaled 4095 = 1100 ∧ Channel.compI.scaled 315 = 0 ∧
    Channel.supply.scaled 3071 = 2400 := by decide

theorem test_rail_faults_the_channel :
    ((did (.sampleDelivered 0#12) (converts .coilT (reading .coilT 100 active))).chan .coilT).state = .faulted := by decide +kernel

/-- CLEAN_MODE, FAN_BOOST without an end, and a FAN service run. -/
theorem test_requests_grant_their_levels :
    ((did (.cleanMode 1#8 4#8) active).arb.granted = 4 ∧ (did (.cleanMode 1#8 4#8) active).fan.state = .spinningUp ∧
    (did (.cleanMode 1#8 4#8) active).clean.pmPwr = true) ∧
    ((did (.fanBoost 5#8 0#16) active).arb.boostRemaining = none ∧ (did (.fanBoost 5#8 0#16) active).arb.granted = 5) ∧
    (did (.serviceRunFan [9#8, 5#8, 0#8, 255#8]) active).arb.granted = 9 := by decide +kernel

theorem test_dry_mode_starts_an_attempt :
    (did (.dryMode 2#8 0#8) (drying (fun d => { d with phase := .idle }) (at' 1000 active))).dry.startWait = some 0 := by decide +kernel

/-- OFF in OFF marks the context that waits under a hold or in a defrost, and changes nothing else. -/
theorem test_off_in_off_marks_the_context :
    (applyDryMode .off 0 (holds .tankFull)).dry = { (holds .tankFull).dry with
      slot2 := (holds .tankFull).dry.slot2.map fun c => { c with endAfter := true } } ∧
    (applyDryMode .off 0 melts).dry = { melts.dry with slot1 := melts.dry.slot1.map fun c => { c with endAfter := true } } ∧
    applyDryMode .off 0 active = active := by decide

/-- A check that can start shows WAITING in the reply to FILTER_CHECK, though fan and FILTER_DP are ready and it samples by the end of the
event. -/
theorem test_filter_check_shows_waiting :
    let l := fitted.setup.refLevel
    let s := reading .filterDp 300 (fanning (fun f => { f with state := .running, atLevel := true, target := (fitted.levelEntry l).speed })
      (fitted.setArb { fitted.arb with granted := l, clean := ⟨true, .atLeast, l, 0⟩ }))
    (replyOf (did .filterCheck s))[3]? = some (byteOf CheckState.waiting.code) ∧ (did .filterCheck s).filt.check.state = .sampling := by
  decide +kernel

/-- The worked sequence of the chapter Events and the Attention Line: COMP_FAULT stands before START_FAIL. -/
theorem test_third_failure_latches_fault_before_start_fail :
    ((did .currentCheck3 (drying (fun d => { d with phase := .starting, onTime := some 3, failures := 2 })
      (drives.setEv { drives.ev with list := [] }))).ev.list.map EventEntry.id) = [5, 22] := by decide +kernel

/-- A tank pulled holds drying, and an open cover stops the compressor. -/
theorem test_accepted_inputs_reach_drying :
    (did .tankInAccepted (watering (fun w => { w with tankIn := ⟨false, true, true⟩ }) active)).dry.holdSet = [.tankOut] ∧
    (did .coverAccepted (watering (fun w => { w with cover := ⟨true, false, true⟩ }) drives)).comp.on = false := by decide +kernel

theorem test_wear_of_a_restored_filter :
    ((did (.filterFit ⟨2#8, 2#8, 2000#32, 20#8, 0#16, [], .accounts 0#32 0#32 6480000#32⟩) active).slot .carbon).state = .nearWorn ∧
    ((did (.filterFit ⟨2#8, 2#8, 2000#32, 20#8, 0#16, [], .accounts 0#32 0#32 7200000#32⟩) active).slot .carbon).state = .worn := by
  decide +kernel

theorem test_soft_reset_leaves_one_entry :
    ((did .softReset (did .resetSoft active)).ev.list.map EventEntry.cause) = [some .linkSoft] := by decide +kernel

theorem test_pump_run_starts : (did .pumpRun pumps).water.pumpOn = true ∧ (did .pumpRun pumps).water.pump.kind = some .host := by
  decide +kernel

/-- A second has 64 slots: no tick before the last of them is over, and no slot behind it. -/
theorem test_tick_counts :
    (did .jobTick (slots 64 State.reset)).time = { uptime := 1, trim := 0, slot := 0, tested := true } ∧
    (did .jobTick (slots 64 (at' 4294967295 active))).time.uptime = 0 ∧ did .jobTick (slots 63 State.reset) = slots 63 State.reset ∧
    (did .slotStart (slots 63 State.reset)).time.slot = 64 ∧ did .slotStart (slots 64 State.reset) = slots 64 State.reset := by
  decide +kernel

/-- A power-on with the bus at its working level starts the comparator's release timer by itself. -/
theorem test_power_on_with_the_bus_up :
    did (.resetRelease .powerOn) (did .cutRelease (did .powerOn State.reset)) = State.reset := by decide +kernel

/-- What one event adds to the pending list stands lowest id first: TANK_OUT before DRY_HOLD and PUMP_RUN_END, and, for a sample that takes a
rise and fills the tank, DRY_HOLD's rise before DRY_WEAK's fall. -/
theorem test_an_event_latches_lowest_id_first :
    let empty := fun (s : State) => s.setEv { s.ev with list := [], stored := conditions s, fallEn := List.replicate 21 true }
    let listed := fun (s : State) => s.ev.list.map fun e => (e.id, e.edge)
    let rising := drying (fun d => { d with dryWeak := true, riseRef := some 900 })
      (reading .tankLvl 940 (active.setSetup { active.setup with optDrain := .bucket }))
    listed (did .tankInAccepted (empty (watering (fun w => { w with tankIn := ⟨false, true, true⟩ }) pumping))) =
      [(1, .rise), (9, .rise), (24, .once)] ∧
    listed (did (.sampleDelivered 3660#12) (converts .tankLvl (empty rising))) = [(0, .rise), (9, .rise), (10, .fall)] := by decide +kernel

/-- A run that passed the NO_FLOW test at its tick goes on, though its level is handed on higher within that second. -/
theorem test_no_flow_is_tested_at_the_tick_alone :
    let s := watering (fun w => { w with
      pumpOn := true, pump := { w.pump with state := .running, elapsed := 30, startLevel := some 600, latestLevel := some 551 } }) pumps
    s.pumpNoFlow = true ∧ (did .pumpNoFlowTest s).water.pump = s.water.pump := by decide

/-- A host run begun below 15.0 % ends at its first tick, and not at the next sample of the same level. -/
theorem test_low_run_ends_at_its_first_tick :
    let s := slots 64 (did .pumpRun (reading .tankLvl 100 pumps))
    s.water.pump.state = .running ∧ (did (.sampleDelivered 683#12) (converts .tankLvl s)).water.pump.state = .running ∧
    (did .jobTick s).water.pump.result = some .done := by decide +kernel

/-- A threshold set for all channels is taken channel by channel: RH's attempt begins before ROOM_T's value raises ROOM_COLD. -/
theorem test_channels_are_taken_in_turn :
    let fresh := fun (c : Channel) (v : Int) (s : State) =>
      s.setChans (s.chans.set c { s.chan c with threshold := 2, window := [v], run := 1 })
    let s := fresh .rh 700 (fresh .roomT 40 (drying (fun d => { d with mode := .target, demand := false }) idles))
    let ready := (fanning (fun f => { f with state := .running, atLevel := true, target := 700 }) s).setArb
      { s.arb with clean := { active := true, kind := .atLeast, level := 4, takenAt := 0 }, granted := 4 }
    let t := event (eachInTurn (fun c => changeChan c (Chan.setThreshold 1)) [.rh, .roomT]) ready
    t.dry.lastStop.map Stop.reason = some .hold ∧ t.dry.level = .hold ∧ t.dry.runStart = 1000 := by decide +kernel

/-- A soft reset leaves the check of a slot without a baseline DUE, with no row and no claim. -/
theorem test_soft_reset_leaves_the_check_due :
    let t := did .softReset (did .resetSoft (fitted.setFilt { fitted.filt with slots := { fitted.filt.slots with fine :=
      { fitted.slot .fine with baseline := none } } }))
    t.filt.check.state = .due ∧ t.arb.filter.active = false ∧ t.scan.claims = [] := by decide +kernel

/-! Witnesses: the hypotheses of the obligations, met -/

theorem witness_StepTakesFrontCommand :
    (State.reset.setPending [.ident, .start]).pending = .ident :: [.start] ∧ State.reset.pending = [] := ⟨rfl, rfl⟩

theorem witness_EveryCommandAnswersNext :
    (∃ t, exec .truncated State.reset = .next t) ∧ ∃ t, step (State.reset.setPending [.truncated]) = .next t := ⟨⟨_, rfl⟩, ⟨_, rfl⟩⟩

theorem witness_NothingActsInResetOrUndue :
    actsInReset .jobTick = false ∧ (resetting (fun r => { r with inReset := true }) State.reset).rst.inReset = true ∧
    actsInReset .pumpTimeout = false ∧ ¬ Due .pumpTimeout State.reset := by
  refine ⟨rfl, rfl, rfl, ?_⟩
  unfold Due
  decide

theorem witness_EventLeavesTheRest :
    settleRound active = active ∧ pumpInputsChanged active active = false ∧ active.ev.list.length ≤ active.ev.list.length := by
  decide +kernel

/-- Every invariant's hypotheses at once: a state with a command waiting. -/
theorem witness_invariants :
    let s := active.setPending [.truncated]
    (s.StoredFollowOwners ∧ s.CompressorNeedsFan ∧ s.CompressorFollowsPhase ∧ s.LockoutRespected ∧ s.time.uptime < maxCount32 ∧
      s.SlotsFollowLevel ∧ s.PumpFollowsRun ∧ s.FilterRowFollowsCheck ∧ s.OneClaimEach ∧ s.EntriesDistinct ∧ s.ChannelsSound) ∧
    ∃ t, step s = .next t := by
  refine ⟨⟨?_, ?_, ?_, ?_, ?_, ?_, ?_, ?_, ?_, ?_, ?_⟩, ⟨_, rfl⟩⟩
  · unfold State.StoredFollowOwners; decide
  · unfold State.CompressorNeedsFan; decide
  · unfold State.CompressorFollowsPhase; decide
  · unfold State.LockoutRespected; decide
  · decide
  · unfold State.SlotsFollowLevel; decide
  · unfold State.PumpFollowsRun; decide
  · unfold State.FilterRowFollowsCheck; decide
  · unfold State.OneClaimEach; decide
  · unfold State.EntriesDistinct; decide
  · intro c; unfold Chan.Sound; cases c <;> decide

theorem witness_ScaledValueIsNearestStep : 0 < 2 ∧ (0 : Nat) ≤ 4095 ∧ (4095 : Nat) ≤ 4095 := by decide

theorem witness_ClaimsAndEmphasisFollowTheirOrder :
    (∀ x ∈ ([⟨.dry, .coilT⟩] : List Claim), x.claimant ≠ .water) ∧ (⟨.dry, .coilT⟩ : Claim) ∈ ([⟨.dry, .coilT⟩] : List Claim) ∧
    (Channel.rh ≠ .coilT ∧ ([⟨.water, .tankLvl⟩, ⟨.service, .rh⟩] : List Claim) = [⟨.water, .tankLvl⟩] ++ ⟨.service, .rh⟩ :: [] ∧
      ∀ x ∈ ([⟨.water, .tankLvl⟩] ++ [] : List Claim), x.claimant ≠ .service) := by decide

/-- The slots' number at both ends, and channels that enter or leave, in every state the clauses tell apart. -/
theorem witness_SlotStartTakesTheNextStep :
    let off := active.setChans (active.chans.set .supply { active.chan .supply with state := .off })
    let enters := off.setScan { off.scan with members := [.rh] }
    let leaves := active.setScan { active.scan with plan := [.rh] }
    let faulted := leaves.setChans (leaves.chans.set .supply { leaves.chan .supply with state := .faulted })
    (active.rst.inReset = false ∧ active.scan.converting = none ∧ active.time.slot < 64 ∧ (slots 63 active).time.slot < 64) ∧
    (Channel.supply ∈ (did .slotStart enters).scan.members ∧ Channel.supply ∉ enters.scan.members ∧ (enters.chan .supply).state = .off ∧
      Channel.compI ∉ enters.scan.members ∧ (enters.chan .compI).state ≠ .off) ∧
    (Channel.supply ∉ (did .slotStart leaves).scan.members ∧ Channel.supply ∈ leaves.scan.members ∧
      (leaves.chan .supply).state ≠ .faulted ∧ (leaves.chan .supply).state ≠ .off) ∧
    (Channel.supply ∉ (did .slotStart faulted).scan.members ∧ (faulted.chan .supply).state = .faulted) := by decide +kernel

theorem witness_samples :
    let s := converts .rh (reading .rh 500 active)
    let u := converts .rh (reading .rh 500 (active.setSubst .rh (some ⟨.fixed 1050, 1050⟩)))
    (s.rst.inReset = false ∧ s.scan.converting = some .rh ∧ (s.chan .rh).state = .qualified ∧ s.serv.subst.get .rh = none) ∧
    (u.rst.inReset = false ∧ u.scan.converting = some .rh ∧ u.serv.subst.get .rh = some ⟨.fixed 1050, 1050⟩ ∧
      Channel.rh.inRange 1050 = false ∧ (u.chan .rh).faultCount ≤ 254 ∧ (u.chan .rh).faultCount < 254) := by decide

/-- The clauses of SampleReachesItsChannel: OFF, rail, out of range at the end points, a jump of one step beyond the limit, and none. -/
theorem witness_SampleReachesItsChannel :
    (active.chan .pm).state ≠ .qualifying ∧ (active.chan .pm).state ≠ .qualified ∧
    ((reading .rh 500 active).sampleFor .rh 4095).rail = true ∧
    (((reading .rh 500 active).sampleFor .rh 4094).rail = false ∧ Channel.rh.scale.validHigh < ((reading .rh 500 active).sampleFor .rh 4094).value) ∧
    (Channel.rh.scaled 2048 = 500 ∧ (reading .rh 469 active).chans.rh.window.getLast? = some 469 ∧ Channel.rh.scale.stepLimit < (500 - 469 : Int).natAbs) ∧
    (reading .rh 470 active).chans.rh.window.getLast? = some 470 ∧ (500 - 470 : Int).natAbs ≤ Channel.rh.scale.stepLimit := by decide

theorem witness_WarmupEndStartsQualifying :
    let s := active.setChans (active.chans.set .pm { active.chan .pm with state := .warming, warmup := some 0 })
    s.rst.inReset = false ∧ (s.chan .pm).state = .warming ∧ (s.chan .pm).warmup = some 0 ∧ (s.chan .pm).value = none := by decide

theorem witness_GrantIsComputedAndTakenByTheFan :
    let row : Row := { active := true, kind := .exactly, level := 7, takenAt := 0 }
    let least : Row := { row with kind := .atLeast }
    active.water.cover.filtered = false ∧ (watering (fun w => { w with cover := ⟨true, true, false⟩ }) active).water.cover.filtered = true ∧
    (active.setArb { active.arb with service := row }).arb.service.exact = true ∧
    (active.setArb { active.arb with dry := row }).arb.dry.exact = true ∧
    (active.setArb { active.arb with filter := row }).arb.filter.exact = true ∧
    (((active.setArb { active.arb with boost := least }).arb.row .boost).active = true ∧
      ((active.setArb { active.arb with boost := least }).arb.row .boost).kind = .atLeast) ∧
    (active.setSupplyLow true).supplyLow = true ∧
    (active.setSlot .pre { SlotRec.emptyWith false with state := .clogged }).clogged = true ∧
    active.computedGrant = active.arb.granted ∧
    (active.setArb { active.arb with boost := least }).computedGrant ≠ active.arb.granted := by decide

/-- A listening part, in SETUP and in ACTIVE: what most request statements ask. -/
theorem witness_listening : State.reset.listening ∧ active.listening ∧ pumps.listening := by unfold State.listening; decide

theorem witness_TachEdgesAreCountedAndMeasured :
    active.rst.inReset = false ∧ 0 < 1 ∧ (fanning (fun f => { f with state := .spinningUp }) active).fan.state = .spinningUp ∧
    ((fanning (fun f => { f with state := .running, discard := true }) active).fan.state = .running ∧
      (fanning (fun f => { f with state := .running, discard := true }) active).fan.discard = true) ∧
    ((fanning (fun f => { f with state := .running }) active).fan.state = .running ∧
      (fanning (fun f => { f with state := .running }) active).fan.discard = false) ∧
    (active.fan.state ≠ .spinningUp ∧ active.fan.state ≠ .running) := by decide

theorem witness_FanAndBoostEventsWhenDue :
    active.rst.inReset = false ∧ (active.setArb { active.arb with boostRemaining := some 0 }).arb.boostRemaining = some 0 ∧
    ((fanning (fun f => { f with state := .spinningUp, timer := 3, stalls := 1 }) active).fan.timer = 3 ∧
      (fanning (fun f => { f with state := .spinningUp, timer := 3, stalls := 1 }) active).fan.stalls < 2) ∧
    ((fanning (fun f => { f with state := .running, timer := 2, stalls := 2 }) active).fan.timer = 2 ∧
      2 ≤ (fanning (fun f => { f with state := .running, timer := 2, stalls := 2 }) active).fan.stalls) ∧
    ((fanning (fun f => { f with state := .stalled, timer := 10 }) active).fan.state = .stalled ∧
      10 ≤ (fanning (fun f => { f with state := .stalled, timer := 10 }) active).fan.timer) ∧
    ((fanning (fun f => { f with state := .running, runTime := 300 }) active).fan.runTime = 300) := by decide

theorem witness_CleanModeChangesModePowerAndRow :
    let lit := active.setClean { active.clean with mode := .manual, manualLevel := some 3, pmPwr := true }
    (State.reset.link.part ≠ .active ∧ active.link.part = .active ∧ 2 < (3#8).toNat) ∧ ((0#8).toNat = 0 ∧ 12 < (13#8).toNat) ∧
    (decide (active.clean.mode = .off) = true ∧ active.clean.pmPwr = false ∧ 1 ≤ (12#8).toNat ∧ (12#8).toNat ≤ 12) ∧
    (lit.listening ∧ decide (lit.clean.mode = .off) = false ∧ lit.clean.pmPwr = true ∧ lit.clean.mode ≠ .auto) := by
  unfold State.listening; decide

theorem witness_AutoLevelFollowsTheValue :
    let c : Cleaning := { active.clean with mode := .auto, basis := some .band, band := some 2, autoLevel := some 4 }
    c.basis = some .band ∧ c.band = some 2 ∧ 0 < 2 ∧ active.setup.bands[2 - 1]? = some ⟨35, 25, 4⟩ ∧
    ({ c with basis := some .floor } : Cleaning).basis = some .floor ∧ ({ c with basis := some .carried } : Cleaning).basis = some .carried ∧
    ({ c with basis := some .fallback } : Cleaning).basis = some .fallback := by decide

theorem witness_CleaningTimersWhenDue :
    let c : Cleaning := { active.clean with mode := .auto, basis := some .band, band := some 2, autoLevel := some 4, stepDown := some 120 }
    let s := ticking (reading .pm 20 (active.setClean c))
    let v := ticking (reading .pm 20 (active.setClean { c with basis := some .carried, band := none }))
    let w := active.setClean { c with unqualified := some 600, stepDown := none }
    (s.rst.inReset = false ∧ s.clean.mode = .auto ∧ s.clean.basis = some .band ∧ s.clean.band = some 2 ∧ s.clean.stepDown = some 120 ∧
      s.setup.stepDownHold ≤ 120 ∧ s.qual .pm = some 20 ∧ s.time.tested = false) ∧
    (v.time.tested = false ∧ v.clean.basis = some .carried ∧ v.clean.stepDown = some 120 ∧ v.qual .pm = some 20) ∧
    w.clean.unqualified = some 600 ∧ 600 ≤ 600 := by decide

theorem witness_DryModeStoresModeAndDemand :
    let s := at' 1000 active
    (State.reset.link.part ≠ .active ∧ s.link.part = .active ∧ (s.setSetup { s.setup with optCompressor := false }).setup.optCompressor = false) ∧
    (s.setup.optCompressor = true ∧ (34#8).toNat < 35 ∧ 70 < (71#8).toNat ∧ 35 ≤ (35#8).toNat ∧ (70#8).toNat ≤ 70) ∧
    (s.dry.mode = .off ∧ s.dry.level = .normal ∧ s.dry.mode ≠ .continuous) ∧
    (drying (fun d => { d with startWait := some 0 }) idles).dry.startWait ≠ none ∧
    (idles.dry.demand = true ∧ idles.compressorRun = false ∧ idles.dry.phase = .idle ∧ idles.dry.startWait = none ∧
      idles.dry.sampleTimer = none ∧ idles.dry.mode ≠ .off) ∧
    (starts.dry.phase = .starting ∧ drives.dry.phase = .running ∧ drives.dry.mode ≠ .off ∧ drives.listening) ∧
    (melts.dry.level ≠ .normal ∧ melts.listening ∧ (holds .tankFull).dry.level ≠ .normal ∧ (holds .tankFull).listening ∧
      (holds .tankFull).dry.mode = .off) := by
  unfold State.listening; decide

theorem witness_CyclePhaseEventsWhenDue :
    let waits := drying (fun d => { d with startWait := some 30 }) idles
    let ready := (fanning (fun f => { f with state := .running, atLevel := true }) waits).setArb { active.arb with granted := 4 }
    ((ticking (drying (fun d => { d with phase := .lockout }) (at' 181 active))).lockoutDue ∧ (ticking active).time.tested = false) ∧ idles.attemptDue ∧
    (ready.startWaiting ∧ ready.mayStart ∧ ready.fanReady ∧ ready.setup.optCompressor = true) ∧ waits.waitTimedOut ∧
    (drying (fun d => { d with retryWait := some 30 }) idles).retryOver ∧ (drying (fun d => { d with idleTimer := some 1200 }) idles).idleOver ∧
    (drying (fun d => { d with sampleTimer := some 60 }) idles).sampleOver ∧
    (drying (fun d => { d with phase := .stopping, runOn := some 60 }) idles).runOnOver ∧ idles.rst.inReset = false := by decide

theorem witness_StartsAndRunsAreJudgedByCurrent :
    let at5 := drying (fun d => { d with onTime := some 5 }) starts
    (starts.rst.inReset = false ∧ starts.dry.level = .normal ∧ starts.dry.phase = .starting ∧
      (drying (fun d => { d with onTime := some 3 }) starts).dry.onTime = some 3 ∧ starts.dry.currentSeen = false) ∧
    (at5.dry.onTime = some 5 ∧ at5.qual .compI = none ∧ at5.dry.lastStart = none) ∧
    ((reading .compI 601 at5).qual .compI = some 601 ∧ (600 : Int) < 601 ∧ (reading .compI 600 at5).qual .compI = some 600 ∧ (600 : Int) ≤ 600) ∧
    (drives.dry.phase = .running ∧ (drying (fun d => { d with trip := some 3 }) drives).dry.trip = some 3 ∧ 3 ≤ 3) := by decide

theorem witness_DemandLossAndDryWeak :
    let lost := drying (fun d => { d with demand := false, onTime := some 120 }) drives
    let weak := ticking (drying (fun d => { d with mode := .target, setpoint := 50, weak := 3600 }) (reading .rh 551 drives))
    (lost.rst.inReset = false ∧ lost.dry.level = .normal ∧ lost.dry.phase = .running ∧ lost.dry.demand = false ∧ lost.compressorRun = false ∧
      lost.dry.onTime = some 120 ∧ 120 ≤ 120) ∧
    (weak.time.tested = false ∧ weak.dry.level = .normal ∧ weak.dry.phase = .running ∧ weak.setup.optDrain ≠ .gravity ∧ 3600 ≤ weak.dry.weak ∧ weak.dry.mode = .target ∧ weak.qual .rh = some 551 ∧
      (weak.dry.setpoint : Int) * 10 + 50 < 551) ∧ drives.dry.mode = .continuous := by decide

theorem witness_FrostTriggerEntersDefrost :
    (drives.rst.inReset = false ∧ drives.dry.level = .normal ∧ drives.dry.phase = .running) ∧
    ((drying (fun d => { d with coilFrost := some 120 }) drives).dry.coilFrost = some 120 ∧ 120 ≤ 120) ∧
    ((ticking drives).time.tested = false ∧
      2400 ≤ (ticking (drying (fun d => { d with runSince := 2400 }) (reading .roomT 149 drives))).dry.runSince ∧
      (reading .roomT 149 drives).qual .roomT = some 149 ∧ (149 : Int) < 150) := by decide

theorem witness_StopStepEndsInMeltOrHold :
    (stops.rst.inReset = false ∧ stops.dry.level = .defrost ∧ stops.dry.step = some .stop ∧ stops.dry.deferred = []) ∧
    ((drying (fun d => { d with stepTimer := some 5 }) stops).dry.stepTimer = some 5 ∧ 5 ≤ 5) ∧
    ((reading .compI 29 stops).qual .compI = some 29 ∧ (29 : Int) < 30) ∧
    (drying (fun d => { d with deferred := [.tankFull] }) stops).dry.deferred ≠ [] := by decide

theorem witness_MeltEndRestoresTheRun :
    melts.rst.inReset = false ∧ melts.dry.level = .defrost ∧ melts.dry.step = some .melt ∧
    melts.dry.slot1 = some ⟨.run, some .running, 1000, 0, 900, none, none, none, false⟩ ∧ melts.dry.lastDefrost = some ⟨1000, none⟩ ∧
    melts.dry.melt = some 0 ∧ (drying (fun d => { d with warm := some 30 }) melts).dry.warm = some 30 := by decide

theorem witness_HoldEntrySavesTheContext :
    (idles.dry.holdSet = [] ∧ idles.dry.level = .normal) ∧ (melts.dry.holdSet = [] ∧ melts.dry.level = .defrost ∧ melts.dry.step = some .melt ∧
      melts.dry.melt = some 0) := by decide

theorem witness_HoldEndRestoresTheContext :
    let two := drying (fun d => { d with holdSet := [.tankFull, .coverOpen] }) (holds .tankFull)
    let kind := fun (c : Context) => drying (fun d => { d with slot2 := some c }) (holds .tankFull)
    ((holds .tankFull).dry.level = .hold ∧ (holds .tankFull).dry.holdSet = [.tankFull] ∧
      (holds .tankFull).dry.slot2 = some ⟨.idle, none, 0, 0, 0, none, none, none, false⟩) ∧
    ((kind ⟨.run, some .running, 0, 0, 0, none, none, none, true⟩).dry.slot2 = some ⟨.run, some .running, 0, 0, 0, none, none, none, true⟩) ∧
    ((kind ⟨.defrost, none, 0, 0, 0, none, some .melt, some 783, false⟩).dry.slot2 =
      some ⟨.defrost, none, 0, 0, 0, none, some .melt, some 783, false⟩) ∧
    (two.dry.holdSet ≠ [] ∧ HoldCause.roomCold ∉ two.dry.holdSet) ∧
    (HoldCause.tankFull ∈ two.dry.holdSet ∧ ∃ other ∈ two.dry.holdSet, other ≠ HoldCause.tankFull) ∧
    (stops.dry.level = .defrost ∧ stops.dry.step = some .stop) := by decide

theorem witness_PinsAndTankStateFollowTheInputs :
    let out := watering (fun w => { w with tankIn := ⟨false, false, false⟩ }) active
    let full := watering (fun w => { w with tank := .full }) active
    out.water.tankIn.filtered = false ∧ (active.water.tankIn.filtered = true ∧ active.setup.optDrain ≠ .gravity) ∧
    (active.setSetup { active.setup with optDrain := .gravity }).setup.optDrain = .gravity ∧
    (watering (fun w => { w with float := ⟨true, true, false⟩ }) active).water.float.filtered = true ∧
    (full.water.tank = .full ∧ full.setup.optDrain = .bucket) ∧
    (active.water.float.filtered = false ∧ active.water.tank ≠ .full ∧ active.qual .tankLvl = none) ∧
    (reading .tankLvl 950 active).qual .tankLvl = some 950 ∧ (reading .tankLvl 800 active).qual .tankLvl = some 800 := by decide

/-- The accepted inputs, the tank pulled also in a pump run and in GRAVITY; a sample with its readers, value by value at each bound. -/
theorem witness_InputsReachTheirReaders :
    let opens := watering (fun w => { w with cover := ⟨true, false, true⟩ }) active
    let pulled := fun (s : State) => watering (fun w => { w with tankIn := ⟨false, true, true⟩ }) s
    let seats := watering (fun w => { w with tankIn := ⟨true, false, true⟩ }) active
    let floats := watering (fun w => { w with float := ⟨true, false, true⟩ }) active
    let gravity := active.setSetup { active.setup with optDrain := .gravity }
    (opens.rst.inReset = false ∧ opens.water.cover.timing = true ∧ opens.water.cover.pin ≠ opens.water.cover.filtered ∧
      (fanning (fun f => { f with state := .fault, fault := true }) opens).fan.fault = true) ∧
    ((pulled active).water.tankIn.timing = true ∧ (pulled active).water.tankIn.pin = false ∧ (pulled active).water.tankIn.filtered = true ∧
      (pulled active).water.held = none ∧ (watering (fun w => { w with held := some 700 }) (pulled active)).water.held = some 700) ∧
    ((pulled pumping).water.tankIn.filtered = true ∧ (pulled pumping).water.pump.state = .running ∧ (pulled gravity).setup.optDrain = .gravity) ∧
    (seats.water.tankIn.timing = true ∧ seats.water.tankIn.pin = true ∧ seats.water.tankIn.filtered = false) ∧
    (floats.water.float.timing = true ∧ floats.water.float.pin ≠ floats.water.float.filtered) ∧
    (converts .coilT active).scan.converting = some .coilT := by decide

theorem witness_ReadingsReachTheirReaders :
    let c : Chan := active.chan .tankLvl
    let had := fun (v : Int) => { c with state := ChanState.qualified, value := some v : Chan }
    let weak := drying (fun d => { d with mode := .continuous, weak := 3600, riseRef := some 500 }) active
    let cold := drying (fun d => { d with runSince := 2400 }) (reading .roomT 149 drives)
    let samples := checks (fun k => { k with state := .sampling, timer := some 60 }) fitted
    let auto : Cleaning := { active.clean with mode := .auto, basis := some .band, band := some 1, autoLevel := some 2, pmPwr := true }
    let smp : Sample := { raw := some 683, value := 100, rail := false, substituted := false, takenAt := 0, accepted := true }
    (had 150).value ≠ (had 151).value ∧ weak.weakDue = true ∧
    (cold.dry.level = .normal ∧ cold.dry.phase = .running ∧ 2400 ≤ cold.dry.runSince ∧ cold.qual .roomT = some 149 ∧ (149 : Int) < 150) ∧
    (starts.dry.level = .normal ∧ starts.dry.phase = .starting ∧ (had 80).value.isSome = true) ∧
    (samples.filt.check.state = .sampling ∧ { had 100 with last := some smp }.last = some smp) ∧
    ((had 1).state ≠ .faulted ∧ ({ c with state := .faulted } : Chan).state = .faulted ∧ ({ c with state := .off } : Chan).state = .off) ∧
    (pumping.water.pump.state = .running ∧ (reading .tankLvl 150 pumping).qual .tankLvl = some 150 ∧ (150 : Int) ≤ 150 ∧
      (reading .tankLvl 151 pumping).qual .tankLvl = some 151 ∧ ¬ (151 : Int) ≤ 150) ∧
    (active.dry.riseRef = none ∧ weak.dry.riseRef = some 500 ∧ (500 : Int) + 10 ≤ 510 ∧ ((500 : Int) ≤ 509 ∧ (509 : Int) < 500 + 10) ∧
      (499 : Int) < 500) ∧
    (active.clean.mode ≠ .auto ∧ auto.mode = .auto ∧ auto.basis ≠ some .fallback ∧ auto.pmPwr = true ∧ (had 1).state = .qualified ∧
      ({ c with state := .qualifying } : Chan).state = .qualifying) := by decide

theorem witness_StatesFollowWhatTheyRead :
    let drains := fun (float blocked : Bool) => watering (fun w => { w with float := ⟨float, float, false⟩, drainBlocked := blocked })
      (active.setSetup { active.setup with optDrain := .gravity })
    let supply := fun (v : Int) => (reading .supply v active).qual .supply
    let target := drying (fun d => { d with mode := .target }) active
    let samples := fun (n : Nat) => checks (fun k => { k with state := .sampling, timer := some n, samples := 6 }) fitted
    let waits := checks (fun k => { k with state := .waiting, timer := some 0 }) fitted
    let ready := fun (s : State) => fanning (fun f => { f with state := .running, atLevel := true }) (reading .filterDp 900 s)
    let bad := fun (s : State) => s.setChans (s.chans.set .filterDp { s.chan .filterDp with state := .faulted })
    (active.setup.optDrain ≠ .gravity ∧ (drains true false).setup.optDrain = .gravity ∧ (drains true false).water.tankIn.filtered = true ∧
      (drains true false).water.float.filtered = true ∧ (drains false true).water.drainBlocked = true ∧
      (drains false true).water.drainClear = none ∧ (drains false false).water.drainBlocked = false) ∧
    (({ active.chan .supply with state := .off } : Chan).state = .off ∧ (active.chan .supply).value = none ∧ supply 2050 = some 2050 ∧
      supply 2149 = some 2149 ∧ supply 2150 = some 2150 ∧ active.setup.supplyWarn = 2050) ∧
    (active.qual .roomT = none ∧ (reading .roomT 49 active).qual .roomT = some 49 ∧ (reading .roomT 60 active).qual .roomT = some 60) ∧
    (active.dry.mode ≠ .target ∧ target.dry.mode = .target ∧ target.qual .rh = none ∧ (reading .rh 530 target).qual .rh = some 530 ∧
      (reading .rh 480 target).qual .rh = some 480 ∧ target.dry.setpoint = 50) ∧
    ((melts.dry.level = .defrost ∧ melts.dry.step = some .melt) ∧ (reading .coilT 40 melts).qual .coilT = some 40 ∧
      (reading .coilT 39 melts).qual .coilT = some 39 ∧ (reading .coilT (-10) drives).qual .coilT = some (-10) ∧
      (reading .coilT (-9) drives).qual .coilT = some (-9) ∧ (reading .compI 601 drives).qual .compI = some 601 ∧
      (drives.dry.level = .normal ∧ drives.dry.phase = .running)) ∧
    ((samples 59).filt.check.state = .sampling ∧ waits.filt.check.state = .waiting ∧ fitted.filt.check.state = .idle ∧
      ((bad waits).chan .filterDp).state = .faulted ∧ (ready waits).checkReady ∧ (ready (samples 59)).checkReady ∧
      ¬ (samples 59).checkReady ∧ ((samples 59).chan .filterDp).state ≠ .faulted ∧ (samples 60).filt.check.timer = some 60 ∧
      (fanning (fun f => { f with state := .running, atLevel := true }) (samples 60)).fan.atLevel = true) ∧
    ((samples 0).filt.check.samples < 7 ∧ 7 ≤ (checks (fun k => { k with samples := 7 }) (samples 0)).filt.check.samples) := by decide

theorem witness_AirflowAndLatchTakeTheirPart :
    let row : Row := { active := true, kind := .exactly, level := 8, takenAt := 0 }
    let blocked := active.setArb { active.arb with filter := row, service := row }
    let drops := fanning (fun f => { f with state := .stalled }) drives
    let odd := fanning (fun f => { f with state := .stalled }) (active.setComp { request := true, on := true })
    let short := drives.setArb { drives.arb with hostCeiling := 3 }
    let e : EventEntry := { id := 24, edge := .once, count := 15, cause := none }
    (¬ active.arb.filter.active = true ∧ blocked.arb.filter.active = true ∧ blocked.arb.service.active = true ∧
      blocked.filt.check.state ≠ .waiting ∧ (checks (fun k => { k with state := .waiting }) blocked).filt.check.state = .waiting) ∧
    (active.comp.on = false ∧ (drops.comp.on = true ∧ drops.fan.state ≠ .running ∧ drops.dry.phase = .running) ∧
      (odd.comp.on = true ∧ odd.dry.phase = .lockout)) ∧
    (drives.shortNow = drives.arb.airflowShort ∧ (short.shortNow = true ∧ short.shortNow ≠ short.arb.airflowShort ∧ short.dry.phase = .running) ∧
      (active.setArb { active.arb with airflowShort := true }).shortNow = false) ∧
    ((∀ x ∈ ([] : List EventEntry), ¬ (x.id = 24 ∧ x.edge = .once)) ∧ [e] = [] ++ e :: [] ∧ e.id = 24 ∧ e.edge = .once) ∧
    (active.ev.onceEn[24 - 21]? = some true ∧
      (active.setEv { active.ev with onceEn := List.replicate 6 false }).ev.onceEn[24 - 21]? ≠ some true) ∧
    (active.ev.stored.length = 21 ∧ active.ev.riseEn.length = 21 ∧ active.ev.fallEn.length = 21) := by decide

theorem witness_PumpAndDrainEventsWhenDue :
    let blocked := watering (fun w => { w with drainBlocked := true, drainClear := some 60 }) active
    let run := fun (n : Nat) (a b : Option Int) => watering (fun w => { w with
      pumpOn := true, pump := { w.pump with state := .running, elapsed := n, startLevel := a, latestLevel := b } }) pumps
    (blocked.rst.inReset = false ∧ blocked.water.drainBlocked = true ∧ blocked.water.drainClear = some 60 ∧ 60 ≤ 60) ∧
    (pumps.pumpMayStart ∧ (reading .tankLvl 600 pumps).pumpMayStart ∧ (reading .tankLvl 600 pumps).qual .tankLvl = some 600) ∧
    ((watering (fun w => { w with float := ⟨true, true, false⟩ }) pumps).pumpMayStart ∧ pumps.qual .tankLvl = none) ∧
    ((ticking (run 30 (some 700) (some 651))).water.pump.elapsed = 30 ∧ (700 - 50 : Int) < 651 ∧ (ticking pumps).time.tested = false) ∧
    ((run 30 (some 600) (some 551)).time.tested = true ∧ (run 30 (some 600) (some 551)).pumpNoFlow = true) ∧
    ((run 45 none none).water.pump.elapsed = 45 ∧ (run 45 none none).water.pump.startLevel = none) ∧
    ((run 90 (some 700) (some 400)).water.pump.elapsed = 90 ∧ (run 90 (some 700) (some 400)).water.pump.startLevel ≠ none) ∧
    ((watering (fun w => { w with pump := { w.pump with state := .resting, rest := some 20 } }) pumps).water.pump.rest = some 20) := by decide

theorem witness_PumpCancelEndsARun :
    let s := watering (fun w => { w with pump := { w.pump with state := .resting, rest := some 20 } }) (reading .tankLvl 600 pumps)
    s.rst.inReset = false ∧ s.water.pump.state = .resting ∧ s.water.pump.rest = some 20 ∧ 20 ≤ 20 ∧ s.link.part = .active ∧
    s.setup.optDrain = .pump ∧ s.water.tankIn.filtered = true ∧ s.water.fault = false ∧ s.qual .tankLvl = some 600 ∧
    (did .pumpRestEnd s).supplyLow = false := by decide +kernel

/-- Each refusal of FILTER_FIT in its order, and both ends. -/
theorem witness_FilterFitReplacesTheRecord :
    let ask := fun (p : FitParams) (s : State) => (replyOf (did (.filterFit p) s)).drop 3
    let p : FitParams := ⟨1#8, 2#8, 2000#32, 90#8, 0#16, [65#8], .absent⟩
    let no := fun (reason detail : Byte) (bs : List Byte) => bs.take 3 = [48#8, reason, detail]
    let closed := active.setSlot .fine { active.slot .fine with coverOpened := false }
    no 2#8 0#8 (ask { p with tag := List.replicate 13 65#8 } active) ∧ no 4#8 0#8 (ask p State.reset) ∧
    no 3#8 0#8 (ask { p with slot := 3#8 } active) ∧
    no 6#8 0#8 (ask p (active.setSetup { active.setup with optSlots := ⟨true, false, true⟩ })) ∧
    no 3#8 1#8 (ask { p with ratingKind := 3#8 } active) ∧ no 3#8 2#8 (ask { p with rated := 20001#32 } active) ∧
    no 3#8 3#8 (ask { p with capture := 101#8 } active) ∧ no 3#8 4#8 (ask { p with riseLimit := 99#16 } active) ∧
    no 3#8 5#8 (ask { p with tag := [31#8] } active) ∧
    no 3#8 6#8 (ask { p with restore := .accountsAndBaseline 0#32 0#32 0#32 6001#16 } active) ∧ no 7#8 0#8 (ask p closed) ∧
    no 5#8 0#8 (ask p (checks (fun k => { k with state := .waiting }) active)) ∧ ¬ no 5#8 0#8 (ask p active) := by decide +kernel

theorem witness_RemovalsAndChecksMoveTheCheck :
    let due := checks (fun c => { c with state := .due }) fitted
    let waits := checks (fun c => { c with state := .waiting, timer := some 60 }) fitted
    due.rst.inReset = false ∧ due.link.answer = none ∧ due.checkMayStart ∧
    ((checks (fun c => { c with retry := some 600 }) due).filt.check.retry = some 600 ∧ 600 ≤ 600) ∧
    (waits.filt.check.state = .waiting ∧ waits.filt.check.timer = some 60 ∧ waits.fan.state ≠ .running) ∧
    ((fanning (fun f => { f with state := .running, atLevel := true }) waits).fan.atLevel = true ∧ (waits.chan .filterDp).state ≠ .qualified) := by
  decide

theorem witness_AirIsChargedExactlyAndWearRises :
    let r := fitted.slot .fine
    ((r.charge 280 400000).load < 4294967295 ∧ (r.charge 280 400000).volume < 4294967295 ∧ r.load ≤ 4294967295) ∧
    (State.reset.link.part = .setup ∧ fitted.link.part = .active ∧ (fitted.slot .pre).state = .empty ∧ (fitted.slot .fine).state ≠ .empty) ∧
    ({ r with runSecs := 7200000 } : SlotRec).ratedUnits ≤ ({ r with runSecs := 7200000 } : SlotRec).used ∧
    ({ r with baseline := some 920, latest := some 2520 } : SlotRec).rise = some 1600 := by decide

theorem witness_SourcesBeginAReset :
    (active.rst.inReset = false ∧ active.rst.cut = false ∧ active.rst.busHigh = true) ∧ (resetting (fun r => { r with inReset := true, cut := true }) active).rst.cut = true ∧
    (resetting (fun r => { r with inReset := true }) active).rst.inReset = true ∧
    ((did .resetFull active).link.answer.map Answer.after = some .fullReset) := by decide +kernel

theorem witness_LastReleaseLeavesReset :
    let s := resetting (fun r => { r with inReset := true, cut := true, releasing := true }) State.reset
    let p := resetting (fun r => { r with inReset := true, srcPin := true, cut := true }) State.reset
    s.rst.inReset = true ∧ s.rst.cut = true ∧ s.rst.releasing = true ∧
    ({ s.rst with cut := false, releasing := false } : Resets).free = true ∧ ¬ (p.rst.cut = true ∧ p.rst.releasing = true) ∧
    s.water.tankIn.pin = true ∧ s.water.float.pin = false ∧ s.water.cover.pin = false := by decide

/-- The hypotheses in a run of the pump, in a busy check and with a request held. -/
theorem witness_SoftResetKeepsWhatItsRulesKeep :
    let s := did .ident (did .resetSoft (checks (fun k => { k with state := .sampling, timer := some 5 }) (reading .tankLvl 300 pumping)))
    s.rst.inReset = false ∧ s.link.answer.map Answer.after = some .softReset ∧ s.link.held = some .ident ∧
    s.water.pump.state = .running ∧ (s.filt.check.state = .waiting ∨ s.filt.check.state = .sampling) ∧ drainSync active = active ∧
    (did .resetSoft active).link.answer.map Answer.after = some .softReset := by decide +kernel

theorem witness_TickCountsASecond :
    let s := active.setArb { active.arb with boostRemaining := some 1 }
    let fan : ServiceRun := ⟨.fan, some 3, none, some 1⟩
    let fans := fanning (fun f => { f with state := .running, periods := 2, periodSum := 5, timer := 2, runTime := 300 }) active
    (fans.fan.periods ≠ 0 ∧ fans.fan.periodSum ≠ 0 ∧ active.fan.periods = 0) ∧
    ((fans.fan.state = .running ∧ 2 ≤ fans.fan.timer ∧ fans.fan.runTime = 300) ∧
      (fanning (fun f => { f with state := .stalled, timer := 10 }) active).fan.timer = 10) ∧
    ((slots 64 s).scan.converting = none ∧ 64 ≤ (slots 64 s).time.slot) ∧
    (active.stepDownDue = false ∧ active.carriedDue = false ∧ active.fallbackDue = false) ∧
    s.rst.inReset = false ∧ s.arb.boostRemaining = some 1 ∧ active.arb.boostRemaining = none ∧
    (active.setArb { active.arb with boostRemaining := some 2 }).arb.boostRemaining = some 2 ∧ (active.chan .pm).warmup = none ∧
    ((active.setChans (active.chans.set .pm { active.chan .pm with state := .warming, warmup := some 1 })).chan .pm).warmup = some 1 ∧
    (active.setServ { active.serv with run := some fan }).serv.run = some fan ∧ fan.kind = .fan ∧ fan.remaining = some 1 := by decide

theorem witness_RequestsFindTheirPlace :
    asked .ident = some .ident ∧ active.rst.inReset = false ∧ active.link.answer = none ∧ active.link.silent = false ∧
    ((did .filterCheck active).link.answer ≠ none ∧ (did .filterCheck active).link.held = none) ∧
    ((did .filterCheck (did .filterCheck active)).link.answer ≠ none ∧ (did .filterCheck (did .filterCheck active)).link.held ≠ none) ∧
    (linking (fun l => { l with silent := true }) active).link.silent = true := by decide +kernel

theorem witness_ReadingRequestsChangeNothing :
    7 < (8#8).toNat ∧ Channel.compI.num = (7#8).toNat ∧ 2 < (3#8).toNat ∧ Slot.carbon.num = (2#8).toNat ∧
    (fitted.slot .fine).tag.length ≤ 12 := by decide

theorem witness_ItemsHaveTheirRangesAndEffects :
    let q := reading .rh 500 active
    let auto := fun (b : Basis) => active.setClean { active.clean with mode := .auto, basis := some b, autoLevel := some 3 }
    let lists : List Byte := [15#8, 0#8, 10#8, 0#8, 2#8, 15#8, 0#8, 10#8, 0#8, 2#8]
    (itemFault 20 0 lists = some 2 ∧ (bandsOf lists)[1]? = some ⟨15, 10, 2⟩ ∧ (bandsOf lists)[0]? = some ⟨15, 10, 2⟩) ∧
    (Drain.bucket = active.setup.optDrain ∧ Drain.gravity ≠ active.setup.optDrain) ∧
    (active.clean.mode ≠ .auto ∧ (auto .fallback).clean.basis = some .fallback ∧
      ((auto .band).clean.mode = .auto ∧ (auto .band).clean.basis ≠ some .fallback ∧ (auto .band).qual .pm = none ∧
        (reading .pm 35 (auto .band)).qual .pm = some 35)) ∧
    (Channel.rh.num = 0 ∧ 8 ≤ 255) ∧ ((active.chan .pm).state ≠ .qualifying ∧ (active.chan .pm).state ≠ .qualified) ∧
    ((q.chan .rh).state = .qualified ∧ (q.chan .rh).threshold = 4 ∧ (active.chan .rh).state = .qualifying ∧ (active.chan .rh).run < 1) := by
  decide

theorem witness_StartResetAndTheEndOfAReply :
    (State.reset.rst.inReset = false ∧ State.reset.link.answer = none ∧ 1 < (2#8).toNat) ∧
    ((did .filterCheck active).link.answer.map Answer.after = some .nothing ∧ (did .filterCheck active).link.held = none) ∧
    (did .ident (did .filterCheck active)).link.held = some .ident ∧
    (did .resetSoft active).link.answer.map Answer.after = some .softReset ∧
    (did .resetFull active).link.answer.map Answer.after = some .fullReset := by decide +kernel

theorem witness_FaultClearsClearTheirOwn :
    (8 ≤ (8#8).toNat ∧ (254#8).toNat ≤ 254) ∧ (7#8).toNat < 8 ∧ Channel.compI.num = (7#8).toNat ∧ (active.chan .compI).state ≠ .faulted ∧
    ((active.setChans (active.chans.set .compI { active.chan .compI with state := .faulted })).chan .compI).state = .faulted := by decide

theorem witness_ReceiverFollowsTheFrame :
    let rx := fun (r : Receiver) => linking (fun l => { l with receiver := r }) active
    let sil := (linking (fun l => { l with silence := 10 }) active).setSetup { active.setup with linkSilence := 10 }
    active.link.receiver = .hunting ∧ (rx .kind).link.receiver = .kind ∧ (rx (.len 1#8)).link.receiver = .len 1#8 ∧ (200#8).toNat ≤ 200 ∧
    200 < (201#8).toNat ∧ (rx (.payload 32#8 1#8 [])).link.receiver = .payload 32#8 1#8 [] ∧ ([] : List Byte).length < (1#8).toNat ∧
    [0#8].length = (1#8).toNat ∧ crc8 [32#8, 1#8, 0#8] ≠ 0#8 ∧ (rx .kind).link.receiver ≠ .hunting ∧
    ((ticking sil).time.tested = false ∧ 0 < sil.setup.linkSilence ∧ sil.link.silent = false ∧ sil.setup.linkSilence ≤ sil.link.silence) := by decide +kernel

theorem witness_FramesCarryRequestsWhole :
    asked (.setupSet 16#8 0#8 [0#8, 1#8]) = some (.setupSet 16#8 0#8 [0#8, 1#8]) ∧ Instr.wellFormed (.setupSet 16#8 0#8 [0#8, 1#8]) = true ∧
    State.reset.rst.inReset = false ∧ State.reset.link.receiver = .hunting := by decide

theorem witness_ServiceRunsStartAndEnd :
    let run : ServiceRun := ⟨.fan, some 3, none, some 0⟩
    active.rst.inReset = false ∧ active.link.answer = none ∧ ([] : List Byte).length ≠ 4 ∧ ([] : List Byte).length ≠ 2 ∧
    (active.setServ { active.serv with run := some run }).serv.run = some run ∧ run.remaining = some 0 := by decide

theorem witness_SubstitutionsReplaceAndAdvance :
    let fixed : Subst := ⟨.fixed 5, 5⟩
    let ramp : Subst := ⟨.ramp (-50) 5 60 false, 60⟩
    (7 < (8#8).toNat ∧ Channel.coilT.num = (2#8).toNat ∧ 1 < (2#8).toNat) ∧
    ((Channel.coilT.scale.low ≤ signedValue [0xCE#8, 0xFF#8] ∧ signedValue [0xCE#8, 0xFF#8] ≤ Channel.coilT.scale.high) ∧
      ¬ signedValue [0#8, 0x80#8] ≥ Channel.coilT.scale.low) ∧
    (0 < signedValue [5#8, 0#8] ∧ signedValue [0xCE#8, 0xFF#8] < signedValue [60#8, 0#8]) ∧
    (8 ≤ (8#8).toNat ∧ (254#8).toNat ≤ 254 ∧ (active.setSubst .coilT (some fixed)).serv.subst.get .coilT ≠ none) ∧
    (fixed.kind = .fixed 5 ∧ ramp.kind = .ramp (-50) 5 60 false ∧ ramp.next = 60 ∧
      ((0 : Int) < 5 ∧ (60 : Int) ≤ 57 + 5) ∧ ¬ ((0 : Int) < 5 ∧ (60 : Int) ≤ 50 + 5)) := by decide

end Sys2Proof.Tests
end

/-! The Measurement Scanner's own arithmetic and lists: rounding and the scaled value (R1), the order of emphasis claims (R6, R7), and the
sequence (R9). -/

namespace Sys2Proof.Machine

/-! Rounding and the scaled value (R1) -/

/-- The quotient that `roundDiv` takes is within half a divisor of the number, and at the half above it. -/
theorem roundQuotient_bounds (n d : Nat) (hd : 0 < d) :
    2 * (d * ((2 * n + d) / (2 * d))) ≤ 2 * n + d ∧ 2 * n < 2 * (d * ((2 * n + d) / (2 * d))) + d := by
  have below := Nat.mul_div_le (2 * n + d) (2 * d)
  have above := Nat.lt_mul_div_succ (2 * n + d) (show 0 < 2 * d by omega)
  rw [Nat.mul_assoc] at below
  rw [Nat.mul_assoc, Nat.mul_succ] at above
  omega

/-- Rounding is to the nearest whole number, and a half goes away from zero. -/
theorem roundDiv_nearest (n : Int) (d : Nat) (hd : 0 < d) :
    (2 * (d * roundDiv n d - n)).natAbs ≤ d ∧
      ((2 * (d * roundDiv n d - n)).natAbs = d → n.natAbs ≤ (d * roundDiv n d).natAbs) := by
  have bounds := roundQuotient_bounds n.natAbs d hd
  unfold roundDiv
  generalize (2 * n.natAbs + d) / (2 * d) = q at bounds ⊢
  split
  · rw [← Int.natCast_mul]
    generalize d * q = m at bounds ⊢
    omega
  · rw [Int.mul_neg, ← Int.natCast_mul]
    generalize d * q = m at bounds ⊢
    omega

/-- A multiple of the divisor is divided exactly. -/
theorem roundDiv_mul_self (k : Int) (d : Nat) (hd : 0 < d) : roundDiv (d * k) d = k := by
  have near := (roundDiv_nearest (d * k) d hd).1
  rw [← Int.mul_sub, Int.natAbs_mul, Int.natAbs_mul, Int.natAbs_natCast] at near
  change 2 * (d * (roundDiv (d * k) d - k).natAbs) ≤ d at near
  rcases Nat.eq_zero_or_pos (roundDiv (d * k) d - k).natAbs with same | apart
  · omega
  · have far : d * 1 ≤ d * (roundDiv (d * k) d - k).natAbs := Nat.mul_le_mul_left d apart
    omega

theorem scaled_nearest (c : Channel) (raw : Nat) :
    (2 * (4095 * c.scaled raw - (c.scale.low * (4095 - raw) + c.scale.high * raw))).natAbs ≤ 4095 := by
  have line : c.scale.low * (4095 - raw) + c.scale.high * raw = c.scale.low * 4095 + raw * (c.scale.high - c.scale.low) := by ring
  rw [line]
  exact (roundDiv_nearest _ 4095 (by decide)).1

theorem scaled_zero (c : Channel) : c.scaled 0 = c.scale.low := by
  have e := roundDiv_mul_self c.scale.low 4095 (by decide)
  rw [← e]; unfold Channel.scaled; congr 1; push_cast; ring

theorem scaled_top (c : Channel) : c.scaled 4095 = c.scale.high := by
  have e := roundDiv_mul_self c.scale.high 4095 (by decide)
  rw [← e]; unfold Channel.scaled; congr 1; push_cast; ring

/-- Settles O13: a scaled value is the rounded quotient of the line, which 4095 divides exactly at the two ends. -/
theorem scaledValueIsNearestStep : Obligations.ScaledValueIsNearestStep :=
  ⟨roundDiv_nearest, fun c raw _ => ⟨scaled_nearest c raw, scaled_zero c, scaled_top c⟩⟩

/-! Emphasis claims (R6, R7) -/

/-- A release where the claimant has no claim changes nothing. -/
theorem releaseClaimIn_absent {who : Claimant} {l : List Claim} (h : ∀ x ∈ l, x.claimant ≠ who) : releaseClaimIn who l = l :=
  List.filter_eq_self.mpr fun x hx => decide_eq_true (h x hx)

/-- A release closes up what stands before and behind the claimant's claim. -/
theorem releaseClaimIn_split {who : Claimant} {a b : List Claim} (d : Channel) (h : ∀ x ∈ a ++ b, x.claimant ≠ who) :
    releaseClaimIn who (a ++ ⟨who, d⟩ :: b) = a ++ b := by
  rw [← releaseClaimIn_absent h]
  simp [releaseClaimIn]

theorem takeClaimIn_held {who : Claimant} {c : Channel} {l : List Claim} (h : ⟨who, c⟩ ∈ l) : takeClaimIn who c l = l := if_pos h

theorem takeClaimIn_new {who : Claimant} {c : Channel} {l : List Claim} (h : ⟨who, c⟩ ∉ l) :
    takeClaimIn who c l = releaseClaimIn who l ++ [⟨who, c⟩] := if_neg h

/-- The walk of R7 adds to what is emphasized already the first different channels that are new, as far as two places go. -/
theorem emphasizeFrom_eq (l : List Claim) : ∀ acc : List Channel, acc.length ≤ 2 →
    emphasizeFrom acc l = (acc ++ ((l.map Claim.channel).filter fun c => !decide (c ∈ acc)).eraseDups).take 2 := by
  induction l with
  | nil => intro acc h; simp [emphasizeFrom, List.take_of_length_le h]
  | cons x xs ih =>
    intro acc h
    unfold emphasizeFrom
    split
    · next old => simp [ih acc h, old]
    · next new =>
      split
      · next room =>
        have rest : ((xs.map Claim.channel).filter fun c => !decide (c ∈ acc ++ [x.channel])) =
            ((xs.map Claim.channel).filter fun c => !decide (c ∈ acc)).filter fun c => !c == x.channel := by
          rw [List.filter_filter]
          congr 1; funext c; simp [Bool.and_comm, beq_eq_decide]
        rw [ih _ (by simpa using room), rest]
        simp [new, List.eraseDups_cons]
      · next full =>
        have two : acc.length = 2 := by omega
        rw [ih acc h, List.take_append_of_le_length two.ge, List.take_append_of_le_length two.ge]

theorem emphasized_eq (l : List Claim) : emphasized l = ((l.map Claim.channel).eraseDups).take 2 := by
  rw [emphasized, emphasizeFrom_eq l [] (Nat.zero_le 2)]
  simp

/-- Settles O14: a take is a release and a new claim at the tail, unless the claim is there; the walk of R7 keeps the first two. -/
theorem claimsAndEmphasisFollowTheirOrder : Obligations.ClaimsAndEmphasisFollowTheirOrder := by
  refine ⟨fun who c l => ⟨?absent, takeClaimIn_held, ?moved⟩, emphasized_eq⟩
  case absent =>
    intro absent
    have released := releaseClaimIn_absent absent
    exact ⟨by rw [takeClaimIn_new fun held => absent _ held rfl, released], released⟩
  case moved =>
    intro a b d differs split others
    have released : releaseClaimIn who l = a ++ b := by rw [split, releaseClaimIn_split d others]
    have elsewhere : ⟨who, c⟩ ∉ l := by
      intro held
      rw [split, List.mem_append, List.mem_cons] at held
      rcases held with inA | same | inB
      · exact others _ (List.mem_append_left b inA) rfl
      · exact differs (Claim.mk.inj same).2.symm
      · exact others _ (List.mem_append_right a inB) rfl
    exact ⟨by rw [takeClaimIn_new elsewhere, released], released⟩

/-! The sequence (R9) -/

/-- The emphasized part: the emphasized list without a PM that is not powered. -/
def emphPart (emph : List Channel) (powered : Bool) : List Channel := emph.filter (converted powered)

/-- The base part: the rest of the plan, without a PM that is not powered. -/
def basePart (plan emph : List Channel) (powered : Bool) : List Channel :=
  plan.filter fun c => converted powered c && !decide (c ∈ emph)

theorem converted_iff (powered : Bool) (c : Channel) : converted powered c = true ↔ (c = .pm → powered = true) := by
  cases powered <;> simp [converted]

theorem mem_emphPart {c : Channel} {emph : List Channel} {powered : Bool} :
    c ∈ emphPart emph powered ↔ c ∈ emph ∧ converted powered c = true := List.mem_filter

theorem mem_basePart {c : Channel} {plan emph : List Channel} {powered : Bool} :
    c ∈ basePart plan emph powered ↔ c ∈ plan ∧ converted powered c = true ∧ c ∉ emph := by simp [basePart]

theorem buildSequence_noBase {plan emph : List Channel} {powered : Bool} (h : basePart plan emph powered = []) :
    buildSequence plan emph powered = emphPart emph powered := if_pos h

theorem buildSequence_base {plan emph : List Channel} {powered : Bool} (h : basePart plan emph powered ≠ []) :
    buildSequence plan emph powered = (basePart plan emph powered).flatMap fun b => emphPart emph powered ++ [b] := if_neg h

/-- The sequence has what its two parts have. -/
theorem mem_buildSequence_parts {c : Channel} {plan emph : List Channel} {powered : Bool} :
    c ∈ buildSequence plan emph powered ↔ c ∈ emphPart emph powered ∨ c ∈ basePart plan emph powered := by
  by_cases h : basePart plan emph powered = []
  · rw [buildSequence_noBase h, h]; simp
  · obtain ⟨b, hb⟩ := List.exists_mem_of_ne_nil _ h
    rw [buildSequence_base h]
    simp only [List.mem_flatMap, List.mem_append, List.mem_singleton]
    constructor
    · rintro ⟨d, hd, inPart | rfl⟩
      · exact .inl inPart
      · exact .inr hd
    · rintro (inPart | inBase)
      · exact ⟨b, hb, .inl inPart⟩
      · exact ⟨c, inBase, .inr rfl⟩

/-- The sequence has every converted member and no other. -/
theorem mem_buildSequence (plan emph : List Channel) (powered : Bool) (c : Channel) :
    c ∈ buildSequence plan emph powered ↔ (c ∈ plan ∨ c ∈ emph) ∧ (c = .pm → powered = true) := by
  rw [mem_buildSequence_parts, mem_emphPart, mem_basePart, ← converted_iff]
  by_cases h : c ∈ emph <;> simp [h]

theorem buildSequence_length {plan emph : List Channel} {powered : Bool} (h : basePart plan emph powered ≠ []) :
    (buildSequence plan emph powered).length = (basePart plan emph powered).length * ((emphPart emph powered).length + 1) := by
  rw [buildSequence_base h, List.length_flatMap]
  simp

/-- Settles O15: the sequence by its two parts. -/
theorem sequenceInterleavesEmphasis : Obligations.SequenceInterleavesEmphasis :=
  ⟨mem_buildSequence, fun _ _ _ => ⟨buildSequence_noBase, buildSequence_base, buildSequence_length⟩, by decide⟩

end Sys2Proof.Machine

/-! The start of a conversion slot and the delivery of a sample (R2, R3, R10, R11, R13, R20 to R26, R149). -/

namespace Sys2Proof.Machine

/-! Channel records -/

theorem State.chan_set_same {s t : State} {c : Channel} {r : Chan} (h : t.chans = s.chans.set c r) : t.chan c = r := by
  unfold State.chan; rw [h, PerChannel.get_set_same]

theorem Chan.entered_off {c : Chan} (h : c.state = .off) (ch : Channel) (powered : Bool) :
    c.entered ch powered = c.restart (c.entryState ch powered) := if_pos h

theorem Chan.entered_notOff {c : Chan} (h : c.state ≠ .off) (ch : Channel) (powered : Bool) : c.entered ch powered = c := if_neg h

theorem Chan.leave_stays {c : Chan} (h : c.state = .faulted ∨ c.state = .off) : c.leave = c := if_pos h

theorem Chan.leave_goesOff {c : Chan} (faulted : c.state ≠ .faulted) (off : c.state ≠ .off) : c.leave = c.restart .off :=
  if_neg fun h => h.elim faulted off

/-! SLOT_START -/

/-- What a notice makes of a record: of a channel that has entered, that has left, or neither (R11, R26). -/
def noticed (old new : List Channel) (powered : Bool) (ch : Channel) (c : Chan) : Chan :=
  if ch ∈ new ∧ ch ∉ old then c.entered ch powered else if ch ∈ old ∧ ch ∉ new then c.leave else c

theorem noticed_entered {old new : List Channel} {ch : Channel} (hn : ch ∈ new) (ho : ch ∉ old) (powered : Bool) (c : Chan) :
    noticed old new powered ch c = c.entered ch powered := if_pos ⟨hn, ho⟩

theorem noticed_left {old new : List Channel} {ch : Channel} (hn : ch ∉ new) (ho : ch ∈ old) (powered : Bool) (c : Chan) :
    noticed old new powered ch c = c.leave := by simp [noticed, hn, ho]

theorem noticed_same {old new : List Channel} {ch : Channel} (h : ch ∈ new ↔ ch ∈ old) (powered : Bool) (c : Chan) :
    noticed old new powered ch c = c := by simp [noticed, h]

/-- The members are the plan and the emphasized channels. -/
theorem mem_membersOf {c : Channel} {plan emph : List Channel} : c ∈ membersOf plan emph ↔ c ∈ plan ∨ c ∈ emph := by
  by_cases h : c ∈ plan <;> simp [membersOf, h]

/-- The notices change the records, each by its own notice. -/
theorem sendNotices_chan (old new : List Channel) (s : State) (c : Channel) :
    (sendNotices old new s).chan c = noticed old new s.clean.pmPwr c (s.chan c) := by
  have h := (changeChans_chan (noticed old new s.clean.pmPwr) Channel.all Channel.all_nodup s).2 c
  rwa [if_pos (Channel.mem_all c)] at h

/-- The notices reach nothing else that no reader changes. -/
theorem sendNotices_frame (old new : List Channel) (s : State) :
    let t := sendNotices old new s
    t.rst = s.rst ∧ t.time = s.time ∧ t.setup = s.setup ∧
      (t.scan.plan = s.scan.plan ∧ t.scan.seq = s.scan.seq ∧ t.scan.members = s.scan.members ∧ t.scan.pos = s.scan.pos) ∧
      t.serv.subst = s.serv.subst ∧ t.link = s.link := by
  have h := (changeChans_chan (noticed old new s.clean.pmPwr) Channel.all Channel.all_nodup s).1
  simp only [Prod.mk.injEq] at h
  obtain ⟨rst, time, setup, ⟨plan, seq, members, pos, -⟩, subst, link, -⟩ := h
  exact ⟨rst, time, setup, ⟨plan, seq, members, pos⟩, subst, link⟩

/-- What a slot's start does to the Scanner, and what it leaves as it is. -/
theorem startSlot_frame (s : State) :
    let t := startSlot s
    t.rst = s.rst ∧ t.time = { s.time with slot := s.time.slot + 1 } ∧ t.setup = s.setup ∧ t.serv.subst = s.serv.subst ∧
      t.link = s.link ∧ t.scan.plan = s.scan.plan ∧ t.scan.seq = s.nextSequence ∧ t.scan.members = s.nextMembers ∧
      t.scan.pos = (if s.nextSequence = s.scan.seq then s.scan.pos else 0) ∧ t.scan.converting = t.scan.seq[t.scan.pos]? := by
  obtain ⟨rst, time, setup, ⟨plan, seq, members, pos⟩, subst, link⟩ :=
    sendNotices_frame s.scan.members s.nextMembers (installSequence (countSlot s))
  exact ⟨rst, time, setup, subst, link, plan, seq, members, pos, rfl⟩

theorem startSlot_chan (s : State) (c : Channel) :
    (startSlot s).chan c = noticed s.scan.members s.nextMembers s.clean.pmPwr c (s.chan c) :=
  sendNotices_chan s.scan.members s.nextMembers (installSequence (countSlot s)) c

/-- SLOT_START where a slot is due. -/
theorem exec_slotStart {s : State} (r : s.rst.inReset = false) (due : s.slotDue) :
    exec .slotStart s = .next (event startSlot s) := by
  rw [event_after]; exact whenDue_after r due

/-- Settles O16: the slot's start by its frame, and each record by its notice. -/
theorem slotStartTakesTheNextStep : Obligations.SlotStartTakesTheNextStep := by
  intro s running idle slot
  obtain ⟨rst, time, setup, subst, link, plan, seq, members, pos, converting⟩ := startSlot_frame s
  have chan : ∀ c, (event startSlot s).chan c = noticed s.scan.members s.nextMembers s.clean.pmPwr c (s.chan c) := fun c => by
    rw [← startSlot_chan]; unfold State.chan; rw [event_chans]
  refine ⟨event startSlot s, exec_slotStart running ⟨idle, slot⟩, ?_⟩
  rw [event_plan, event_seq, event_pos, event_converting, event_members, event_rst, event_time, event_setup, event_serv, event_link]
  rw [members]
  refine ⟨plan, seq, by rw [seq, pos], converting, fun c => mem_membersOf, ?entered, ?present, ?left, ?stays, ?same,
    rst, time, setup, subst, link⟩
  case entered =>
    intro c new old off
    rw [chan, noticed_entered new old, Chan.entered_off off]
    rfl
  case present =>
    intro c new old notOff
    rw [chan, noticed_entered new old, Chan.entered_notOff notOff]
  case left =>
    intro c new old faulted off
    rw [chan, noticed_left new old, Chan.leave_goesOff faulted off]
    rfl
  case stays =>
    intro c new old stays
    rw [chan, noticed_left new old, Chan.leave_stays stays]
  case same =>
    intro c same
    rw [chan, noticed_same same]

/-! SAMPLE_DELIVERED: one record -/

theorem pushWindow_eq (w : List Int) (v : Int) : pushWindow w v = if w.length < 4 then w ++ [v] else w.drop 1 ++ [v] := by
  unfold pushWindow
  by_cases short : w.length < 4
  · rw [if_pos short, if_neg (by rw [List.length_append, List.length_singleton]; omega)]
  · rw [if_neg short, if_pos (by rw [List.length_append, List.length_singleton]; omega), List.drop_append_of_le_length (by omega)]

theorem inRange_false_iff {ch : Channel} {v : Int} : ch.inRange v = false ↔ v < ch.scale.validLow ∨ ch.scale.validHigh < v := by
  simp only [Channel.inRange, Bool.and_eq_false_iff, decide_eq_false_iff_not, Int.not_le]

theorem isJump_iff {limit : Nat} {v : Int} {c : Chan} :
    c.isJump limit v = true ↔ ∃ w, c.window.getLast? = some w ∧ limit < (v - w).natAbs := by
  unfold Chan.isJump; split
  next w newest => simp [newest]
  next empty => simp [empty]

/-- A record takes part in the tests of R20 to R24 in QUALIFYING and QUALIFIED. -/
def Chan.tested (c : Chan) : Prop := c.state = .qualifying ∨ c.state = .qualified

/-- The record with the sample as its last, not yet accepted. -/
def Chan.withLast (smp : Sample) (c : Chan) : Chan := { c with last := some { smp with accepted := false } }

section
variable {c : Chan} {ch : Channel} {smp : Sample}

/-- Outside QUALIFYING and QUALIFIED a sample is only kept as the last one. -/
theorem deliver_untested (untested : ¬ c.tested) : c.deliver ch smp = c.withLast smp := if_neg untested

/-- The tests, in the order of R20 to R24. -/
theorem deliver_tested (tested : c.tested) :
    c.deliver ch smp =
      if smp.rail then (c.withLast smp).hardFault
      else if ch.inRange smp.value = false then (c.withLast smp).outOfRange
      else if c.isJump ch.scale.stepLimit smp.value then c.jump smp else c.accept smp := if_pos tested

theorem deliver_rail (tested : c.tested) (rail : smp.rail = true) : c.deliver ch smp = (c.withLast smp).hardFault := by
  rw [deliver_tested tested, if_pos rail]

theorem deliver_outOfRange (tested : c.tested) (rail : smp.rail = false) (out : ch.inRange smp.value = false) :
    c.deliver ch smp = (c.withLast smp).outOfRange := by
  rw [deliver_tested tested, if_neg (by simp [rail]), if_pos out]

theorem deliver_jump (tested : c.tested) (rail : smp.rail = false) (inside : ¬ ch.inRange smp.value = false)
    (far : c.isJump ch.scale.stepLimit smp.value = true) : c.deliver ch smp = c.jump smp := by
  rw [deliver_tested tested, if_neg (by simp [rail]), if_neg inside, if_pos far]

theorem deliver_accept (tested : c.tested) (rail : smp.rail = false) (inside : ¬ ch.inRange smp.value = false)
    (near : ¬ c.isJump ch.scale.stepLimit smp.value = true) : c.deliver ch smp = c.accept smp := by
  rw [deliver_tested tested, if_neg (by simp [rail]), if_neg inside, if_neg near]

/-- A jump begins a new run with the sample (R23). -/
theorem jump_eq : c.jump smp =
    { c.markAccepted smp with
      window := [smp.value], run := 1, state := if c.threshold ≤ 1 then .qualified else .qualifying,
      value := if c.threshold ≤ 1 then some smp.value else none } := by
  unfold Chan.jump
  by_cases one : c.threshold ≤ 1
  · rw [if_pos one, if_pos one]; exact if_pos one
  · rw [if_neg one, if_neg one]; exact if_neg one

/-- An accepted sample goes into the window and the run, and the channel qualifies where the run is full (R24, R25). -/
theorem accept_eq {window : List Int} {run : Nat} (tested : c.tested) (hw : pushWindow c.window smp.value = window)
    (hr : (if c.run = c.threshold then c.run else c.run + 1) = run) : c.accept smp =
    { c.markAccepted smp with
      window := window, run := run,
      state := if c.state = .qualified ∨ run = c.threshold then .qualified else .qualifying,
      value := if c.state = .qualified ∨ run = c.threshold then some (windowMean window) else c.value } := by
  subst hw hr
  unfold Chan.accept
  by_cases full : c.state = .qualified ∨ (if c.run = c.threshold then c.run else c.run + 1) = c.threshold
  · rw [if_pos full, if_pos full]; exact if_pos full
  · have qualifying : c.state = .qualifying := tested.resolve_right fun h => full (.inl h)
    rw [if_neg full, if_neg full, ← qualifying]; exact if_neg full

/-- Every delivered sample is the record's last, with the accepted mark or without. -/
theorem deliver_last (c : Chan) (ch : Channel) (smp : Sample) : ∃ a, (c.deliver ch smp).last = some { smp with accepted := a } := by
  by_cases tested : c.tested
  · rw [deliver_tested tested]
    split
    · exact ⟨false, rfl⟩
    · split
      · exact ⟨false, rfl⟩
      · split
        · exact ⟨true, by rw [jump_eq]; rfl⟩
        · exact ⟨true, by rw [accept_eq tested rfl rfl]; rfl⟩
  · exact ⟨false, by rw [deliver_untested tested]; rfl⟩

end

/-! SAMPLE_DELIVERED: the whole state -/

section
variable {s : State} {c : Channel}

theorem sampleFor_live (raw : Nat) (h : s.serv.subst.get c = none) :
    s.sampleFor c raw = { raw := some raw, value := c.scaled raw, rail := decide (raw = 0 ∨ raw = 4095), substituted := false,
                          takenAt := s.time.uptime, accepted := false } := by
  unfold State.sampleFor State.substOf; rw [h]

theorem sampleFor_standIn (raw : Nat) {r : Subst} (h : s.serv.subst.get c = some r) :
    s.sampleFor c raw = { raw := none, value := r.next, rail := false, substituted := true, takenAt := s.time.uptime,
                          accepted := false } := by
  unfold State.sampleFor State.substOf; rw [h]

/-- Live or a stand-in, a sample is taken now and not yet accepted. -/
theorem sampleFor_fresh (s : State) (c : Channel) (raw : Nat) :
    (s.sampleFor c raw).takenAt = s.time.uptime ∧ (s.sampleFor c raw).accepted = false := by
  unfold State.sampleFor; split <;> exact ⟨rfl, rfl⟩

theorem withLast_fresh {smp : Sample} (fresh : smp.accepted = false) (old : Chan) :
    old.withLast smp = { old with last := some smp } := by
  unfold Chan.withLast; rw [← fresh]

/-- The readers of a sample leave what no reader changes as the record's replacement has it. -/
theorem sampleChan_unread (c : Channel) (smp : Sample) (s : State) :
    (sampleChan c smp s).unread = (putChan c ((s.chan c).deliver c smp) s).unread := notify_unread c _ _ _ _

/-- A delivery replaces the converted channel's record, advances the step and the stand-in, and leaves the rest that no reader changes. -/
theorem deliverSample_frame (raw : Nat) (converting : s.scan.converting = some c) :
    let t := deliverSample raw s
    t.chans = s.chans.set c ((s.chan c).deliver c (s.sampleFor c raw)) ∧ t.scan.converting = none ∧
      t.scan.pos = (if s.scan.pos + 1 < s.scan.seq.length then s.scan.pos + 1 else 0) ∧ t.scan.seq = s.scan.seq ∧
      t.serv.subst = s.serv.subst.set c ((s.serv.subst.get c).map Subst.advance) ∧ t.rst = s.rst ∧ t.time = s.time ∧
      t.setup = s.setup ∧ t.link = s.link := by
  have reach : deliverSample raw s = sampleChan c (s.sampleFor c raw) (advanceSubst c (advanceStep s)) := by
    unfold deliverSample; rw [converting]
  rw [reach]
  have unread := sampleChan_unread c (s.sampleFor c raw) (advanceSubst c (advanceStep s))
  simp only [State.unread, Prod.mk.injEq] at unread
  obtain ⟨rst, time, setup, ⟨-, seq, -, pos, conv⟩, chans, subst, link, -⟩ := unread
  exact ⟨chans, conv, pos, seq, subst, rst, time, setup, link⟩

/-- SAMPLE_DELIVERED where a conversion is under way. -/
theorem exec_sampleDelivered (raw : BitVec 12) (r : s.rst.inReset = false) (converting : s.scan.converting = some c) :
    exec (.sampleDelivered raw) s = .next (event (deliverSample raw.toNat) s) := by
  have due : s.scan.converting ≠ none := by simp [converting]
  rw [event_after]; exact whenDue_after (test := fun s => s.scan.converting ≠ none) r due

theorem delivered_chan (raw : Nat) (converting : s.scan.converting = some c) :
    (event (deliverSample raw) s).chan c = (s.chan c).deliver c (s.sampleFor c raw) :=
  State.chan_set_same ((event_chans _ _).trans (deliverSample_frame raw converting).1)

end

/-- Settles O17: the record keeps the sample as the Scanner has made it, and a rail reading is the first test. -/
theorem sampleCarriesCodeValueAndMarks : Obligations.SampleCarriesCodeValueAndMarks := by
  intro raw c s running converting
  obtain ⟨a, last⟩ := deliver_last (s.chan c) c (s.sampleFor c raw.toNat)
  have chan := delivered_chan raw.toNat converting
  refine ⟨_, { s.sampleFor c raw.toNat with accepted := a }, exec_sampleDelivered raw running converting, by rw [chan, last],
    (sampleFor_fresh s c raw.toNat).1, ?live, ?standIn⟩
  case live =>
    intro noSubst
    have faults : (s.sampleFor c raw.toNat).rail = true → (s.chan c).tested →
        ((event (deliverSample raw.toNat) s).chan c).state = .faulted ∧
          ((event (deliverSample raw.toNat) s).chan c).faultCount = 255 := fun rail tested => by
      rw [chan, deliver_rail tested rail]; exact ⟨rfl, rfl⟩
    have live := sampleFor_live raw.toNat noSubst
    have codes : raw.toNat = 0 ∨ raw.toNat = 4095 ↔ raw = 0#12 ∨ raw = 4095#12 := by simp [BitVec.toNat_eq]
    refine ⟨by rw [live], by rw [live], by rw [live]; simpa using codes, by rw [live], ?_, faults⟩
    rintro rfl rfl
    rw [live]
    exact scaled_top .rh
  case standIn =>
    intro r standIn
    rw [sampleFor_standIn _ standIn]
    exact ⟨rfl, rfl, rfl, rfl⟩

/-- Settles O19: the frame of a delivery, and for the record the tests of R20 to R24 in their order. -/
theorem sampleReachesItsChannel : Obligations.SampleReachesItsChannel := by
  intro raw c s running converting old smp out window run
  obtain ⟨chans, conv, pos, seq, subst, rst, time, setup, link⟩ := deliverSample_frame raw.toNat converting
  obtain ⟨now, fresh⟩ := sampleFor_fresh s c raw.toNat
  refine ⟨event (deliverSample raw.toNat) s, old.deliver c smp, exec_sampleDelivered raw running converting, ?_⟩
  rw [event_chans, event_converting, event_pos, event_seq, event_serv, event_rst, event_time, event_setup, event_link]
  refine ⟨chans, conv, pos, seq, subst, rst, time, setup, link, ?untested, fun tested => ⟨?rail, ?outside, ?inside⟩⟩
  case untested =>
    intro notQualifying notQualified
    rw [deliver_untested fun h => h.elim notQualifying notQualified, withLast_fresh fresh]
  case rail =>
    intro rail
    rw [deliver_rail tested rail, withLast_fresh fresh]
    rfl
  case outside =>
    intro rail outside
    rw [deliver_outOfRange tested rail (inRange_false_iff.mpr outside), withLast_fresh fresh]
    rfl
  case inside =>
    intro rail low high
    have inside : ¬ c.inRange smp.value = false := fun h => by rcases inRange_false_iff.mp h with h | h <;> omega
    refine ⟨fun v newest far => ?_, fun near => ?_⟩
    · rw [deliver_jump tested rail inside (isJump_iff.mpr ⟨v, newest, far⟩), jump_eq, ← now]
      rfl
    · have close : ¬ old.isJump c.scale.stepLimit smp.value = true := fun h => by
        obtain ⟨v, newest, far⟩ := isJump_iff.mp h
        exact absurd (near v newest) (by omega)
      rw [deliver_accept tested rail inside close, accept_eq tested (pushWindow_eq _ _) rfl, ← now]
      rfl

end Sys2Proof.Machine

/-! What one step of the machine can do to the parts that the invariants speak of, and the two invariants of lists that R6 and R160
give: a claimant holds one emphasis claim, and the pending list one entry for an event and edge. -/

namespace Sys2Proof.Machine

/-! One step -/

/-- A step's effect on the core is moves on the queue's rest, behind the counts where the command is a tick. -/
theorem step_moves {s t : State} (h : step s = .next t) :
    Moves (s.setPending s.pending.tail) t ∨ Moves (tickCounts (s.setPending s.pending.tail)) t := by
  unfold step at h
  split at h
  next idle =>
    cases h
    exact .inl (.of_eq (by simp [State.core, idle]))
  next c rest queue =>
    rw [queue, List.tail_cons]
    by_cases tick : c = .jobTick
    · subst tick
      by_cases due : (s.setPending rest).rst.inReset = false ∧ (s.setPending rest).tickDue
      · exact .inr (exec_jobTick_moves _ t due.1 due.2 h)
      · refine .inl (.of_eq ?_)
        have undue : exec .jobTick (s.setPending rest) = .next (s.setPending rest) := by
          cases r : (s.setPending rest).rst.inReset with
          | false => exact exec_jobTick_undue _ fun d => due ⟨r, d⟩
          | true => unfold exec execJobTick live; rw [if_pos r]
        rw [undue] at h
        cases h; rfl
    · exact .inl (exec_moves c _ t tick h)

/-- What holds of the core with the queue's rest, and still holds behind a tick's counts, every step keeps that every move keeps. -/
theorem step_keeps {P : Core → Prop} {s t : State} (move : ∀ c d, Core.Move c d → P c → P d)
    (rest : P (s.setPending s.pending.tail).core) (counts : P (tickCounts (s.setPending s.pending.tail)).core)
    (h : step s = .next t) : P t.core := by
  rcases step_moves h with m | m
  · exact m.keep move rest
  · exact m.keep move counts

/-! Emphasis claims (R6) -/

/-- No claimant has two claims in the list. -/
def OneClaimIn (l : List Claim) : Prop := (l.map Claim.claimant).Nodup

theorem oneClaimEach_iff (s : State) : s.OneClaimEach ↔ OneClaimIn s.core.claims := Iff.rfl

/-- Behind a release the claimant has no claim. -/
theorem not_mem_releaseClaimIn (who : Claimant) (l : List Claim) : who ∉ (releaseClaimIn who l).map Claim.claimant := by
  simp [releaseClaimIn]

theorem OneClaimIn.release {l : List Claim} (h : OneClaimIn l) (who : Claimant) : OneClaimIn (releaseClaimIn who l) :=
  h.sublist (List.filter_sublist.map _)

theorem OneClaimIn.take {l : List Claim} (h : OneClaimIn l) (who : Claimant) (c : Channel) : OneClaimIn (takeClaimIn who c l) := by
  by_cases held : ⟨who, c⟩ ∈ l
  · rwa [takeClaimIn_held held]
  · unfold OneClaimIn
    rw [takeClaimIn_new held, List.map_append]
    refine (h.release who).append (List.nodup_singleton who) ?_
    simpa using not_mem_releaseClaimIn who l

theorem move_keeps_oneClaimIn (c d : Core) (m : Core.Move c d) (h : OneClaimIn c.claims) : OneClaimIn d.claims := by
  cases m
  case take who ch => exact h.take who ch
  case release who => exact h.release who
  case reset => exact List.nodup_nil
  all_goals exact h

/-! The pending list (R160) -/

/-- What an entry stands for: its event and edge. -/
def EventEntry.key (e : EventEntry) : Nat × Edge := (e.id, e.edge)

/-- No two entries for one event and edge, and counts from 1 to 15. -/
def EntriesDistinctIn (l : List EventEntry) : Prop := (l.map EventEntry.key).Nodup ∧ ∀ e ∈ l, 1 ≤ e.count ∧ e.count ≤ 15

theorem entriesDistinct_iff (s : State) : s.EntriesDistinct ↔ EntriesDistinctIn s.core.list := Iff.rfl

/-- Latching keeps the keys in their places and adds one at the tail only where it is new. -/
theorem latchIn_keys (id : Nat) (edge : Edge) (cause : Option ResetCause) (l : List EventEntry) :
    (latchIn id edge cause l).map EventEntry.key =
      if (id, edge) ∈ l.map EventEntry.key then l.map EventEntry.key else l.map EventEntry.key ++ [(id, edge)] := by
  induction l with
  | nil => rfl
  | cons x xs ih =>
    unfold latchIn
    by_cases same : x.id = id ∧ x.edge = edge
    · obtain ⟨rfl, rfl⟩ := same
      simp [EventEntry.key]
    · have other : (id, edge) ≠ x.key := fun e => same ⟨(congrArg Prod.fst e).symm, (congrArg Prod.snd e).symm⟩
      rw [if_neg same, List.map_cons, ih, List.map_cons]
      simp only [List.mem_cons, other, false_or]
      split <;> rfl

/-- Latching starts a count at 1 or adds 1 to it up to 15. -/
theorem latchIn_counts (id : Nat) (edge : Edge) (cause : Option ResetCause) {l : List EventEntry}
    (h : ∀ e ∈ l, 1 ≤ e.count ∧ e.count ≤ 15) : ∀ e ∈ latchIn id edge cause l, 1 ≤ e.count ∧ e.count ≤ 15 := by
  induction l with
  | nil => simp [latchIn]
  | cons x xs ih =>
    obtain ⟨hx, hxs⟩ := List.forall_mem_cons.mp h
    unfold latchIn
    split
    · refine List.forall_mem_cons.mpr ⟨?_, hxs⟩
      simp only
      omega
    · exact List.forall_mem_cons.mpr ⟨hx, ih hxs⟩

theorem EntriesDistinctIn.latch {l : List EventEntry} (h : EntriesDistinctIn l) (id : Nat) (edge : Edge) (cause : Option ResetCause) :
    EntriesDistinctIn (latchIn id edge cause l) := by
  refine ⟨?_, latchIn_counts id edge cause h.2⟩
  rw [latchIn_keys]
  split
  · exact h.1
  · next new => exact h.1.append (List.nodup_singleton _) (by simpa using new)

theorem EntriesDistinctIn.perm {l k : List EventEntry} (h : EntriesDistinctIn l) (p : k.Perm l) : EntriesDistinctIn k :=
  ⟨(p.map _).nodup_iff.mpr h.1, fun e he => h.2 e (p.mem_iff.mp he)⟩

theorem EntriesDistinctIn.sublist {l k : List EventEntry} (h : EntriesDistinctIn l) (p : k.Sublist l) : EntriesDistinctIn k :=
  ⟨h.1.sublist (p.map _), fun e he => h.2 e (p.subset he)⟩

theorem EntriesDistinctIn.single {e : EventEntry} (h : e.count = 1) : EntriesDistinctIn [e] :=
  ⟨List.nodup_singleton _, by simp [h]⟩

theorem move_keeps_entriesDistinctIn (c d : Core) (m : Core.Move c d) (h : EntriesDistinctIn c.list) : EntriesDistinctIn d.list := by
  cases m
  case latch id edge => exact h.latch id edge none
  case order l perm => exact h.perm perm
  case read => exact h.sublist (List.drop_sublist _ _)
  case entries l one =>
    rcases one with rfl | ⟨e, rfl, he⟩
    · exact ⟨List.nodup_nil, by simp⟩
    · exact .single he
  case reset l chans x off up list sound is =>
    rcases list with rfl | ⟨e, rfl, he⟩
    · exact h
    · exact .single he
  all_goals exact h

/-- Settles O11: every move keeps both lists, and the queue and a tick's counts do not reach them. -/
theorem listsHoldEachKeyOnce : Obligations.ListsHoldEachKeyOnce :=
  ⟨fun _ t h e => (oneClaimEach_iff t).mpr (step_keeps (P := fun c => OneClaimIn c.claims) move_keeps_oneClaimIn h h e),
   fun _ t h e => (entriesDistinct_iff t).mpr (step_keeps (P := fun c => EntriesDistinctIn c.list) move_keeps_entriesDistinctIn h h e)⟩

/-- Settles O5: right after reset the lists are empty or hold one entry, every machine rests, and every channel record is as R35 has it. -/
theorem invariantsHoldAtReset : Obligations.InvariantsHoldAtReset := by
  refine ⟨?stored, ?fan, ?phase, ?lockout, ?slots, ?pump, ?filter, ?claims, ?entries, chansAtReset_sound⟩
  case stored => intro _; decide
  case fan => intro on; cases on
  case phase => constructor <;> decide
  case lockout => unfold State.LockoutRespected; decide
  case slots => unfold State.SlotsFollowLevel; decide
  case pump => unfold State.PumpFollowsRun; decide
  case filter => unfold State.FilterRowFollowsCheck; decide
  case claims => exact List.nodup_nil
  case entries => exact (entriesDistinct_iff _).mpr (.single rfl)

end Sys2Proof.Machine

/-! The channel records: their invariant (R18, R19), the rail reading (R21) and the end of the sensor's warm-up (R28). -/

namespace Sys2Proof.Machine

/-! Sound records (R18, R19) -/

/-- Every record of the channels is sound. -/
def AllSound (chans : PerChannel Chan) : Prop := ∀ c, (chans.get c).Sound

theorem channelsSound_iff (s : State) : s.ChannelsSound ↔ AllSound s.core.chans := Iff.rfl

theorem AllSound.set {chans : PerChannel Chan} (h : AllSound chans) {c : Channel} {r : Chan} (sound : r.Sound) :
    AllSound (chans.set c r) := by
  intro d
  by_cases same : d = c
  · rw [same, PerChannel.get_set_same]; exact sound
  · rw [PerChannel.get_set_other _ _ _ _ same]; exact h d

theorem move_keeps_allSound (c d : Core) (m : Core.Move c d) (h : AllSound c.chans) : AllSound d.chans := by
  cases m
  case chan ch r sound => exact h.set (sound (h ch))
  case reset sound _ => exact fun ch => sound ch (h ch)
  all_goals exact h

/-- The warm-up counted is no part of what makes a record sound. -/
theorem tickCounts_allSound {s : State} (h : AllSound s.chans) : AllSound (tickCounts s).chans :=
  h.set (c := .pm) (r := s.chans.pm.advance) (h .pm)

/-- Settles O12: every move keeps the records sound, and the queue and a tick's counts do too. -/
theorem channelRecordsStaySound : Obligations.ChannelRecordsStaySound := fun _ t h e =>
  (channelsSound_iff t).mpr (step_keeps (P := fun c => AllSound c.chans) move_keeps_allSound h (tickCounts_allSound h) e)

/-! The rail reading (R21) -/

/-- An out-of-range sample counts up to 254 (R22). -/
theorem outOfRange_faultCount_le {c : Chan} (count : c.faultCount ≤ 254) : c.outOfRange.faultCount ≤ 254 := by
  unfold Chan.outOfRange; dsimp only
  split <;> omega

/-- A sample that is no rail reading leaves a count of at most 254 at most 254. -/
theorem deliver_faultCount_le {c : Chan} {ch : Channel} {smp : Sample} (tested : c.tested) (rail : smp.rail = false)
    (count : c.faultCount ≤ 254) : (c.deliver ch smp).faultCount ≤ 254 := by
  rw [deliver_tested tested, if_neg (by simp [rail])]
  split
  · exact outOfRange_faultCount_le count
  · split
    · rw [jump_eq]; exact count
    · rw [accept_eq tested rfl rfl]; exact count

/-- An out-of-range sample that brings the count to the limit faults the channel (R22). -/
theorem outOfRange_faulted {c : Chan} (count : c.faultCount < 254) (limit : c.faultLimit ≤ c.faultCount + 1) :
    c.outOfRange.state = .faulted := by
  simp [Chan.outOfRange, Chan.restart, Nat.not_le.mpr count, limit]

/-- Settles O18: the rail mark is the first test of a live sample; a stand-in has none, and its count stops short of 255. -/
theorem railReadingIsHardFault : Obligations.RailReadingIsHardFault := by
  intro raw c s running converting tested
  have chan := delivered_chan raw.toNat converting
  have delivered := exec_sampleDelivered raw running converting
  refine ⟨fun live codes => ?live, fun r standIn => ⟨_, delivered, ?count, ?faulted⟩⟩
  case live =>
    have rail : (s.sampleFor c raw.toNat).rail = true := by
      rw [sampleFor_live _ live]
      rcases codes with rfl | rfl <;> rfl
    refine ⟨_, s.sampleFor c raw.toNat, delivered, rail, ?_⟩
    rw [chan, deliver_rail tested rail, withLast_fresh (sampleFor_fresh s c raw.toNat).2]
    rfl
  all_goals
    have rail : (s.sampleFor c raw.toNat).rail = false := by rw [sampleFor_standIn _ standIn]
    rw [chan]
  case count => exact deliver_faultCount_le tested rail
  case faulted =>
    intro outside count limit
    have value : (s.sampleFor c raw.toNat).value = r.next := by rw [sampleFor_standIn _ standIn]
    rw [deliver_outOfRange tested rail (by rw [value, outside])]
    exact outOfRange_faulted count limit

/-! The end of the warm-up (R28) -/

/-- A change of the cleaning record reaches that record and its row, and nothing else an event leaves as it is. -/
theorem changeClean_kept (f : Cleaning → Cleaning) (s : State) :
    (changeClean f s).kept = { s.kept with
      clean := f s.clean, rows := ((changeClean f s).arb.clean, s.arb.service, s.arb.boost) } := by
  unfold changeClean placeClean; dsimp only
  split
  · rfl
  · split
    · rfl
    · split <;> rfl

/-- A cleaning record that stays keeps its row. -/
theorem changeClean_same {f : Cleaning → Cleaning} {s : State} (h : f s.clean = s.clean) : changeClean f s = s := by
  unfold changeClean placeClean
  rw [h]; exact if_pos rfl

theorem Chan.warmedUp_due {c : Chan} (warming : c.state = .warming) (ended : c.warmup = some 0) :
    c.warmedUp = c.restart .qualifying := if_pos ⟨warming, ended⟩

/-- PM's first qualifying after the warm-up asks nothing of the Cleaning Controller (R69). -/
theorem react_afterWarming (u : Setup) {old new : Chan} (was : old.state = .warming) (now : new.state = .qualifying) (c : Cleaning) :
    c.react u old new = c := by
  unfold Cleaning.react
  rw [now, was]
  split
  · rfl
  · exact if_neg fun h => absurd h.1 (by decide)

/-- The end of the warm-up replaces PM's record, and its reader does nothing with it. -/
theorem warmTick_due {s : State} (warming : (s.chan .pm).state = .warming) (ended : (s.chan .pm).warmup = some 0) :
    warmTick s = putChan .pm ((s.chan .pm).restart .qualifying) s := by
  unfold warmTick changeChan
  rw [Chan.warmedUp_due warming ended]
  exact changeClean_same (react_afterWarming _ warming rfl _)

/-- Settles O20: PM's record is replaced, and neither its reader nor the rest of the event reaches anything that is kept. -/
theorem warmupEndStartsQualifying : Obligations.WarmupEndStartsQualifying := by
  intro s running warming ended
  have kept := event_kept warmTick s
  rw [warmTick_due warming ended] at kept
  refine ⟨event warmTick s, ?_, ?_, fun _ => by rw [kept_clean kept, kept_cleanRow kept]; exact ⟨rfl, rfl⟩⟩
  · rw [event_after]
    exact whenDue_after (test := fun s => (s.chan .pm).state = .warming ∧ (s.chan .pm).warmup = some 0) running ⟨warming, ended⟩
  · rw [kept_clean kept, kept]; rfl

end Sys2Proof.Machine

/-! The requests that only read, and the lengths of the layouts (R37, R141, R170, R176, R178, R179, R181). -/

namespace Sys2Proof.Machine

/-! Replies -/

/-- A request row stands for the arrival of its frame. -/
theorem exec_asked {i : Instr} {r : Request} (row : asked i = some r) (s : State) : exec i s = live (arrive r) s := by
  cases i <;> cases row <;> rfl

/-- The part in state `s` takes every request at once, on the state `h`. -/
def Hears (s h : State) : Prop := ∀ (i : Instr) (r : Request), asked i = some r → exec i s = .next (takeRequest r h)

/-- A listening part does, on the state in which the silence is cleared (R169, R173). -/
theorem State.listening.hears {s : State} (listening : s.listening) : Hears s (clearSilence s) := fun _ r row =>
  (exec_asked row s).trans (heard r s listening)

section
variable {s h u : State} {i : Instr} {r : Request}

/-- A request that is accepted, and that no reset follows. -/
theorem Hears.accepted {x : List Byte} (hears : Hears s h) (row : asked i = some r) (taken : take r h = (u, .ok x))
    (plain : ∀ b, r ≠ .reset b) : exec i s = .next (u.replied r x) := by
  rw [hears i r row, took taken plain]

/-- A request that is accepted with an event. -/
theorem Hears.event {f : State → State} {p : State → List Byte} (hears : Hears s h) (i : Instr) (row : asked i = some r)
    (taken : take r h = accept f p h) (plain : ∀ b, r ≠ .reset b) :
    exec i s = .next ((h.after (f h)).replied r (p (h.after (f h)))) :=
  hears.accepted row (taken.trans (accept_after f p h)) plain

/-- A request that is refused. -/
theorem Hears.refused {reason : Reason} {detail : Nat} (hears : Hears s h) (row : asked i = some r)
    (no : take r h = refuse reason detail h) : exec i s = .next (h.declined r reason detail) := by
  rw [hears i r row, Machine.refused no]

end

/-! Channel and slot numbers (R1, R131) -/

theorem Channel.ofNum_num (c : Channel) : Channel.ofNum c.num = some c := by cases c <;> rfl

theorem Channel.num_lt (c : Channel) : c.num < 8 := by cases c <;> decide

theorem Channel.ofNum_none {n : Nat} (h : 7 < n) : Channel.ofNum n = none := by
  unfold Channel.ofNum; split <;> first | omega | rfl

theorem Slot.ofNum_num (n : Slot) : Slot.ofNum n.num = some n := by cases n <;> rfl

theorem Slot.ofNum_none {n : Nat} (h : 2 < n) : Slot.ofNum n = none := by
  unfold Slot.ofNum; split <;> first | omega | rfl

/-! The lengths of the layouts (R181). The long layouts are unfolded by `delta`: their equations are costly to derive. -/

@[simp] theorem leBytes_length (k n : Nat) : (leBytes k n).length = k := by
  induction k generalizing n with
  | zero => rfl
  | succ k ih => rw [leBytes, List.length_cons, ih]

@[simp] theorem field_length (k n : Nat) : (field k n).length = k := by
  unfold field; split <;> exact leBytes_length k _

@[simp] theorem fieldOpt_length (k : Nat) (n : Option Nat) : (fieldOpt k n).length = k := by
  cases n with
  | none => exact List.length_replicate
  | some n => exact field_length k n

@[simp] theorem signedField_length (v : Int) : (signedField v).length = 2 := leBytes_length 2 _

@[simp] theorem valueField_length (v : Option Int) : (valueField v).length = 2 := by
  cases v with
  | none => rfl
  | some v => exact signedField_length v

@[simp] theorem flagField_length (b : Bool) : (flagField b).length = 1 := rfl

@[simp] theorem Row.bytes_length (r : Row) : r.bytes.length = 7 := by simp [Row.bytes]

@[simp] theorem Chan.summary_length (c : Chan) : c.summary.length = 6 := by simp [Chan.summary]

@[simp] theorem claimBytes_length (l : List Claim) (who : Claimant) : (claimBytes l who).length = 2 := by
  unfold claimBytes; split
  · simp
  · rfl

@[simp] theorem serviceBytes_length (r : Option ServiceRun) : (serviceBytes r).length = 5 := by simp [serviceBytes]

@[simp] theorem contextBytes_length (c : Option Context) : (contextBytes c).length = 20 := by cases c <;> simp [contextBytes]

@[simp] theorem PumpRun.bytes_length (p : PumpRun) : p.bytes.length = 19 := by simp [PumpRun.bytes]

@[simp] theorem Check.bytes_length (c : Check) : c.bytes.length = 17 := by simp [Check.bytes]

@[simp] theorem SlotRec.summary_length (r : SlotRec) : r.summary.length = 3 := by simp [SlotRec.summary]

@[simp] theorem windowBytes_length (w : List Int) : (windowBytes w).length = 8 := by simp [windowBytes]

theorem statusPart_length (s : State) : (statusPart s).length = 87 := by
  delta statusPart
  simp only [Channel.all, List.flatMap_cons, List.flatMap_nil, List.length_nil, Chan.summary_length,
    claimBytes_length, serviceBytes_length, List.length_append, field_length, fieldOpt_length, flagField_length]

theorem statusAir_length (s : State) : (statusAir s).length = 62 := by
  delta statusAir
  simp only [Row.bytes_length, List.length_append, field_length, fieldOpt_length, flagField_length]

theorem statusDrying_length (s : State) : (statusDrying s).length = 117 := by
  delta statusDrying
  simp only [contextBytes_length, List.length_append, field_length, fieldOpt_length, valueField_length, flagField_length]

theorem statusWater_length (s : State) : (statusWater s).length = 67 := by
  delta statusWater
  simp only [PumpRun.bytes_length, SlotRec.summary_length, Check.bytes_length, List.length_append, field_length, fieldOpt_length, valueField_length, flagField_length]

theorem channelBytes_length (c : Channel) (k : Chan) : (channelBytes c k).length = 32 := by
  delta channelBytes
  simp only [windowBytes_length, List.length_append, field_length, fieldOpt_length, valueField_length, flagField_length]

/-- The tag takes 12 bytes, padded. -/
theorem slotBytes_length (n : Slot) {r : SlotRec} (tag : r.tag.length ≤ 12) : (slotBytes n r).length = 45 := by
  delta slotBytes
  simp only [List.length_append, List.length_replicate, field_length, fieldOpt_length, valueField_length, flagField_length]
  omega

/-! The answers -/

section
variable {h : State}

theorem identBytes_eq : identBytes = leBytes 2 14961 ++ leBytes 2 460 ++ [1#8] ++ (List.range 8).map Config.serialByte := rfl

theorem take_status (page : Byte) : take (.status page) h =
    if 3 < page.toNat then refuse .badValue 0 h else answerWith (statusPage h page.toNat) h := rfl

theorem take_channelGet_none {channel : Byte} (beyond : 7 < channel.toNat) : take (.channelGet channel) h = refuse .badValue 0 h := by
  simp only [take, takeChannelGet, Channel.ofNum_none beyond]

theorem take_channelGet {channel : Byte} {c : Channel} (num : c.num = channel.toNat) :
    take (.channelGet channel) h = answerWith (channelBytes c (h.chan c)) h := by
  simp only [take, takeChannelGet, ← num, Channel.ofNum_num]

theorem take_filterGet_none {slot : Byte} (beyond : 2 < slot.toNat) : take (.filterGet slot) h = refuse .badValue 0 h := by
  simp only [take, takeFilterGet, Slot.ofNum_none beyond]

theorem take_filterGet {slot : Byte} {n : Slot} (num : n.num = slot.toNat) :
    take (.filterGet slot) h = answerWith (slotBytes n (h.slot n)) h := by
  simp only [take, takeFilterGet, ← num, Slot.ofNum_num]

theorem itemKnown_false_iff (id : Nat) : itemKnown id = false ↔ ¬ ((1 ≤ id ∧ id ≤ 10) ∨ (16 ≤ id ∧ id ≤ 30)) := by
  simp [itemKnown]

/-- SETUP_GET: the id, then the index, by the item's rule. -/
theorem take_setupGet (item index : Byte) : take (.setupGet item index) h =
    if ¬ ((1 ≤ item.toNat ∧ item.toNat ≤ 10) ∨ (16 ≤ item.toNat ∧ item.toNat ≤ 30)) then refuse .badValue 255 h
    else if (item.toNat = 17 ∨ item.toNat = 18) ∧ 8 ≤ index.toNat then refuse .badValue 0 h
    else if item.toNat = 6 ∧ 12 < index.toNat then refuse .badValue 0 h
    else answerWith (item :: index :: itemValue item.toNat index.toNat h) h := by
  simp only [take, takeSetupGet, itemKnown_false_iff, getFault]
  by_cases known : ¬ ((1 ≤ item.toNat ∧ item.toNat ≤ 10) ∨ (16 ≤ item.toNat ∧ item.toNat ≤ 30))
  · rw [if_pos known, if_pos known]
  · rw [if_neg known, if_neg known]
    by_cases channel : (item.toNat = 17 ∨ item.toNat = 18) ∧ 8 ≤ index.toNat
    · simp only [if_pos channel]
    · by_cases level : item.toNat = 6 ∧ 12 < index.toNat
      · simp only [if_neg channel, if_pos level]
      · simp only [if_neg channel, if_neg level]

end

/-- Settles O52: each reading request is answered or refused on the state as it stands, and each layout is a list of fields. -/
theorem readingRequestsChangeNothing : Obligations.ReadingRequestsChangeNothing := by
  refine ⟨fun s listening => ?requests,
    fun s => ⟨statusPart_length s, statusAir_length s, statusDrying_length s, statusWater_length s⟩,
    channelBytes_length, fun n _ => slotBytes_length n⟩
  have hears := listening.hears
  generalize clearSilence s = h at hears ⊢
  refine ⟨hears.accepted rfl rfl nofun, fun page => ?status,
    fun channel => ⟨fun beyond => hears.refused rfl (take_channelGet_none beyond),
      fun c num => hears.accepted rfl (take_channelGet num) nofun⟩,
    fun slot => ⟨fun beyond => hears.refused rfl (take_filterGet_none beyond),
      fun n num => hears.accepted rfl (take_filterGet num) nofun⟩,
    fun item index => ?setup⟩
  case status =>
    have taken := take_status (h := h) page
    split_ifs at taken ⊢
    · exact hears.refused rfl taken
    · exact hears.accepted rfl taken nofun
  case setup =>
    have taken := take_setupGet (h := h) item index
    dsimp only
    by_cases unknown : ¬ ((1 ≤ item.toNat ∧ item.toNat ≤ 10) ∨ (16 ≤ item.toNat ∧ item.toNat ≤ 30))
    · rw [if_pos unknown] at taken ⊢
      exact hears.refused rfl taken
    · rw [if_neg unknown] at taken ⊢
      split_ifs at taken ⊢
      · exact hears.refused rfl taken
      · exact hears.refused rfl taken
      · exact hears.accepted rfl taken nofun

end Sys2Proof.Machine

/-! Requests that change channel records: FAULT_CLEAR (R31, R56, R85, R127, R172), and SUBST_SET and SUBST_CLEAR (R32, R187, R188). -/

namespace Sys2Proof.Machine

/-! A request taken on several channels in turn -/

theorem mem_indexChannels {n : Nat} (index : n < 8 ∨ n = 255) (c : Channel) : c ∈ indexChannels n ↔ n = 255 ∨ c.num = n := by
  rcases index with below | rfl
  · unfold indexChannels
    interval_cases n <;> cases c <;> decide
  · exact iff_of_true (Channel.mem_all c) (.inl rfl)

theorem indexChannels_nodup (n : Nat) : (indexChannels n).Nodup := by
  unfold indexChannels; split
  · exact List.nodup_singleton _
  · exact Channel.all_nodup

/-- What only the turn of one channel changes, and no event does, is changed exactly when that channel is named. -/
theorem eachInTurn_at {α : Type} {view : State → α} {f : Channel → State → State} {g : α → α} {d : Channel}
    (keeps : ∀ f s, view (event f s) = view (f s)) (own : ∀ s, view (f d s) = g (view s))
    (other : ∀ c s, c ≠ d → view (f c s) = view s) {l : List Channel} (nodup : l.Nodup) (s : State) :
    view (eachInTurn f l s) = if d ∈ l then g (view s) else view s := by
  induction l generalizing s with
  | nil => rfl
  | cons c cs ih =>
    obtain ⟨new, rest⟩ := List.nodup_cons.mp nodup
    have first : view (f c s) = if d = c then g (view s) else view s := by
      split
      · next same => rw [← same]; exact own s
      · next differs => exact other c s (Ne.symm differs)
    cases cs with
    | nil => simpa [eachInTurn] using first
    | cons e es =>
      rw [eachInTurn, ih rest, keeps, first]
      by_cases same : d = c
      · rw [if_neg (same ▸ new), if_pos same, if_pos (List.mem_cons.mpr (.inl same))]
      · simp [same]

/-! One record replaced -/

theorem State.chan_set_other {s t : State} {c d : Channel} {r : Chan} (h : t.chans = s.chans.set c r) (differs : d ≠ c) :
    t.chan d = s.chan d := by
  unfold State.chan; rw [h, PerChannel.get_set_other _ _ _ _ differs]

theorem changeChan_unread (c : Channel) (f : Chan → Chan) (s : State) :
    (changeChan c f s).unread = (putChan c (f (s.chan c)) s).unread := notify_unread c _ _ _ _

theorem changeChan_chans (c : Channel) (f : Chan → Chan) (s : State) :
    (changeChan c f s).chans = s.chans.set c (f (s.chan c)) := by
  have unread := changeChan_unread c f s
  simp only [State.unread, Prod.mk.injEq] at unread
  obtain ⟨-, -, -, -, chans, -⟩ := unread
  exact chans

theorem changeChan_same (c : Channel) (f : Chan → Chan) (s : State) : (changeChan c f s).chan c = f (s.chan c) :=
  State.chan_set_same (changeChan_chans c f s)

theorem changeChan_other {c d : Channel} (differs : d ≠ c) (f : Chan → Chan) (s : State) : (changeChan c f s).chan d = s.chan d :=
  State.chan_set_other (changeChan_chans c f s) differs

/-- The members and the sensor's power, on which the entry state of a channel depends (R26, R31). -/
theorem changeChan_entry (c : Channel) (f : Chan → Chan) (s : State) :
    (changeChan c f s).scan.members = s.scan.members ∧ (changeChan c f s).clean.pmPwr = s.clean.pmPwr := by
  have unread := changeChan_unread c f s
  simp only [State.unread, Prod.mk.injEq] at unread
  obtain ⟨-, -, -, ⟨-, -, members, -⟩, -, -, -, power⟩ := unread
  exact ⟨members, power⟩

theorem State.after_chan (s u : State) (c : Channel) : (s.after u).chan c = u.chan c := by
  unfold State.chan State.after; rw [event_chans]

theorem State.after_serv (s u : State) : (s.after u).serv = u.serv := event_serv _ _

/-! FAULT_CLEAR -/

/-- FAULT_CLEAR of the fan: the stalls at 0, and with the latch set the drive starts over (R56). -/
theorem clearFan_eq (s : State) :
    let f : Fan := { s.fan with
      stalls := 0, fault := false, measured := none, atLevel := false, settleCount := 0, discard := false, edge := false, periods := 0,
      periodSum := 0 }
    clearFan s = { s with fan :=
      if s.fan.fault = false then { s.fan with stalls := 0 }
      else if 0 < s.arb.granted ∧ s.water.cover.filtered = false then { f with state := .spinningUp, timer := 0 }
      else { f with state := .off } } := by
  intro f
  unfold clearFan
  by_cases latched : s.fan.fault = true
  · rw [if_neg (show ¬ s.fan.fault = false by simp [latched])]
    refine (if_pos latched).trans ?_
    dsimp only
    by_cases starts : 0 < s.arb.granted ∧ s.water.cover.filtered = false
    · rw [if_pos starts, if_pos ⟨starts.1, by simp [State.coverOpen, starts.2]⟩]; rfl
    · rw [if_neg starts, if_neg (by simpa [State.coverOpen] using starts)]; rfl
  · rw [if_pos (show s.fan.fault = false by simpa using latched)]
    exact if_neg latched

/-- A channel that is not FAULTED only has its count cleared (R31). -/
theorem Chan.clearFault_notFaulted {c : Chan} (h : c.state ≠ .faulted) (ch : Channel) (powered member : Bool) :
    c.clearFault ch powered member = { c with faultCount := 0 } := if_neg h

/-- A FAULTED channel goes to the state in which it is converted again (R31). -/
theorem Chan.clearFault_faulted {c : Chan} (h : c.state = .faulted) (ch : Channel) (powered member : Bool) :
    c.clearFault ch powered member = { c with
      faultCount := 0, window := [], run := 0, value := none,
      state := if member = true then c.entryState ch powered else .off } := if_pos h

/-- The state that R31 gives a FAULTED channel, written out. -/
theorem State.clearedState_eq (s : State) (c : Channel) :
    (if s.member c = true then (s.chan c).entryState c s.clean.pmPwr else .off) =
      if c ∉ s.scan.members then .off else if c ≠ .pm then .qualifying else if s.clean.pmPwr = false then .off
        else if 0 < (s.chan .pm).warmup.getD 0 then .warming else .qualifying := by
  by_cases member : c ∈ s.scan.members
  · rw [if_neg (not_not_intro member), if_pos (show s.member c = true from decide_eq_true member)]
    by_cases pm : c = .pm
    · subst pm; rfl
    · rw [if_pos pm]; exact if_pos pm
  · rw [if_pos member, if_neg (by simpa [State.member] using member)]

/-- FAULT_CLEAR of channels changes each named record and no other (R31). -/
theorem clearChannels_chan (n : Nat) (s : State) (c : Channel) :
    (eachInTurn clearChannel (indexChannels n) s).chan c =
      if c ∈ indexChannels n then (s.chan c).clearFault c s.clean.pmPwr (s.member c) else s.chan c := by
  have each := eachInTurn_at
    (view := fun s => (s.chan c, s.scan.members, s.clean.pmPwr)) (f := clearChannel) (d := c)
    (g := fun (r, members, power) => (r.clearFault c power (decide (c ∈ members)), members, power))
    (fun f s => by unfold State.chan; rw [event_chans, event_members, event_clean])
    (fun s => by
      obtain ⟨members, power⟩ := changeChan_entry c (fun r => r.clearFault c s.clean.pmPwr (s.member c)) s
      unfold clearChannel; rw [changeChan_same, members, power]; rfl)
    (fun d s differs => by
      obtain ⟨members, power⟩ := changeChan_entry d (fun r => r.clearFault d s.clean.pmPwr (s.member d)) s
      unfold clearChannel; rw [changeChan_other (Ne.symm differs), members, power])
    (indexChannels_nodup n) s
  have chan := congrArg Prod.fst each
  split_ifs at chan ⊢ <;> exact chan

theorem take_faultClear_fan (channel : Byte) (s : State) :
    take (.faultClear 0#8 channel) s = accept clearFan (fun _ => [0#8, channel]) s := rfl

theorem take_faultClear_compressor (channel : Byte) (s : State) :
    take (.faultClear 1#8 channel) s = accept clearCompressor (fun _ => [1#8, channel]) s := rfl

theorem take_faultClear_pump (channel : Byte) (s : State) :
    take (.faultClear 2#8 channel) s = accept clearPump (fun _ => [2#8, channel]) s := rfl

theorem take_faultClear_link (channel : Byte) (s : State) :
    take (.faultClear 3#8 channel) s = (clearCounters s, .ok [3#8, channel]) := rfl

theorem take_faultClear_channels {channel : Byte} (named : channel.toNat < 8 ∨ channel.toNat = 255) (s : State) :
    take (.faultClear 4#8 channel) s =
      accept (eachInTurn clearChannel (indexChannels channel.toNat)) (fun _ => [4#8, channel]) s := if_neg (by omega)

/-- Settles O56: each target by its own effect, and the channels each in its turn. -/
theorem faultClearsClearTheirOwn : Obligations.FaultClearsClearTheirOwn := by
  intro channel s listening
  have hears := listening.hears
  generalize clearSilence s = h at hears ⊢
  refine ⟨?fan, (hears.event (.faultClearCompressor channel) rfl (take_faultClear_compressor channel h) nofun :),
    (hears.event (.faultClearPump channel) rfl (take_faultClear_pump channel h) nofun :),
    hears.accepted rfl (take_faultClear_link channel h) nofun,
    fun low high => hears.refused rfl (if_pos ⟨low, by omega⟩), fun index => ?channels⟩
  case fan =>
    rw [← clearFan_eq h]
    exact (hears.event (.faultClearFan channel) rfl (take_faultClear_fan channel h) nofun :)
  case channels =>
    have named : channel.toNat < 8 ∨ channel.toNat = 255 := index.imp_right fun all => by rw [all]; rfl
    refine ⟨_, hears.event (.faultClearChannel channel) rfl (take_faultClear_channels named h) nofun, fun c mine => ?_, fun c notAll others => ?_⟩
    all_goals
      rw [State.after_chan, clearChannels_chan]
    · rw [if_pos ((mem_indexChannels named c).mpr (mine.imp_left fun all => by rw [all]; rfl))]
      refine ⟨fun notFaulted => Chan.clearFault_notFaulted notFaulted _ _ _, fun faulted => ?_⟩
      rw [Chan.clearFault_faulted faulted, State.clearedState_eq]
    · refine if_neg fun mem => ?_
      rcases (mem_indexChannels named c).mp mem with all | num
      · exact notAll (BitVec.eq_of_toNat_eq all)
      · exact others num

/-! SUBST_SET and SUBST_CLEAR -/

theorem Chan.substitute_eq (flag : Bool) (c : Chan) : c.substitute flag =
    if c.state = .qualifying ∨ c.state = .qualified then
      { c with subst := flag, state := .qualifying, window := [], run := 0, value := none }
    else { c with subst := flag } := rfl

/-- A substitution change hands on no value: it takes a qualified value away or leaves the value as it is (R32). -/
theorem newValue_substitute (flag : Bool) (c : Chan) : newValue c (c.substitute flag) = none := by
  rw [Chan.substitute_eq]
  split <;> simp [newValue]

/-- Where no new value is handed on and no sample is accepted, the readers leave the Service Unit alone. -/
theorem notify_serv {old new : Chan} (quiet : newValue old new = none) (ch : Channel) (s : State) :
    (notify ch false old new s).serv = s.serv := by
  cases ch
  case rh => unfold notify readRh testWeak; dsimp only; split_ifs <;> rfl
  case roomT => unfold notify readRoom; dsimp only; split <;> rfl
  case tankLvl => unfold notify readTank; dsimp only; rw [quiet]; dsimp only; split <;> rfl
  case filterDp => unfold notify readDp; dsimp only; rw [if_neg (fun h => absurd h.1 (by decide))]
  case pm => exact congrArg Kept.serv (changeClean_kept _ s)
  case compI => unfold notify readCurrent; rw [quiet]
  all_goals rfl

theorem substituted_serv (c : Channel) (flag : Bool) (s : State) : (changeChan c (Chan.substitute flag) s).serv = s.serv :=
  notify_serv (newValue_substitute flag _) c _

/-- SUBST_SET puts the record in force and changes the channel's record; nothing else of the Service Unit moves (R32, R187). -/
theorem applySubst_effect (c : Channel) (kind : SubstKind) (next : Int) (s : State) :
    let t := applySubst c kind next s
    t.serv = { s.serv with subst := s.serv.subst.set c (some { kind := kind, next := next }) } ∧
      t.chan c = (s.chan c).substitute true ∧ ∀ d, d ≠ c → t.chan d = s.chan d :=
  ⟨substituted_serv c true _, changeChan_same c _ _, fun _ differs => changeChan_other differs _ _⟩

theorem clearSubst_absent {c : Channel} {s : State} (absent : s.serv.subst.get c = none) : clearSubst c s = s :=
  if_neg (by simp [State.substOf, absent])

/-- SUBST_CLEAR of a channel with a record in force (R32, R188). -/
theorem clearSubst_present {c : Channel} {s : State} (present : s.serv.subst.get c ≠ none) :
    clearSubst c s = changeChan c (Chan.substitute false) (s.setSubst c none) :=
  if_pos (Option.isSome_iff_ne_none.mpr present)

/-- What SUBST_CLEAR leaves of other channels, and of the Service Unit besides the record. -/
theorem clearSubst_frame (c : Channel) (s : State) :
    (clearSubst c s).serv.run = s.serv.run ∧
      ∀ d, d ≠ c → (clearSubst c s).chan d = s.chan d ∧ (clearSubst c s).serv.subst.get d = s.serv.subst.get d := by
  by_cases absent : s.serv.subst.get c = none
  · rw [clearSubst_absent absent]; exact ⟨rfl, fun _ _ => ⟨rfl, rfl⟩⟩
  · rw [clearSubst_present absent, substituted_serv]
    exact ⟨rfl, fun d differs => ⟨changeChan_other differs _ _, PerChannel.get_set_other _ _ _ _ differs⟩⟩

/-- SUBST_CLEAR of several channels is on each of them what it is on that one alone. -/
theorem clearSubsts_effect (n : Nat) (s : State) (c : Channel) :
    let t := eachInTurn clearSubst (indexChannels n) s
    (t.chan c, t.serv.subst.get c, t.serv.run) =
      if c ∈ indexChannels n ∧ s.serv.subst.get c ≠ none then ((s.chan c).substitute false, none, s.serv.run)
      else (s.chan c, s.serv.subst.get c, s.serv.run) := by
  intro t
  have each := eachInTurn_at
    (view := fun s => (s.chan c, s.serv.subst.get c, s.serv.run)) (f := clearSubst) (d := c)
    (g := fun (r, record, run) => if record ≠ none then (r.substitute false, none, run) else (r, record, run))
    (fun f s => by unfold State.chan; rw [event_chans, event_serv])
    (fun s => by
      rw [(clearSubst_frame c s).1]
      by_cases absent : s.serv.subst.get c = none
      · rw [clearSubst_absent absent]; dsimp only; rw [if_neg (not_not_intro absent)]
      · rw [clearSubst_present absent, changeChan_same, substituted_serv]; dsimp only; rw [if_pos absent]
        exact congrArg (fun r => (_, r, _)) (PerChannel.get_set_same _ _ _))
    (fun d s differs => by
      obtain ⟨run, others⟩ := clearSubst_frame d s
      obtain ⟨chan, record⟩ := others c (Ne.symm differs)
      rw [run, chan, record])
    (indexChannels_nodup n) s
  rw [each]
  by_cases named : c ∈ indexChannels n <;> simp [named]

section
variable {channel kind : Byte} {params : List Byte} {c : Channel} {h : State}

theorem take_substSet_noChannel (beyond : 7 < channel.toNat) : take (.substSet channel kind params) h = refuse .badValue 0 h := by
  simp only [take, takeSubstSet, Channel.ofNum_none beyond]

theorem take_substSet_noKind (num : c.num = channel.toNat) (unknown : 1 < kind.toNat) :
    take (.substSet channel kind params) h = refuse .badValue 1 h := by
  simp only [take, takeSubstSet, ← num, Channel.ofNum_num, if_pos unknown]

/-- A length that is not the kind's. -/
theorem take_substSet_length (num : c.num = channel.toNat) (known : kind.toNat ≤ 1)
    (wrong : params.length ≠ if kind.toNat = 0 then 2 else 7) :
    take (.substSet channel kind params) h = refuse .badLength 0 h := by
  simp only [take, takeSubstSet, ← num, Channel.ofNum_num, if_neg (Nat.not_lt.mpr known)]
  by_cases fixed : kind.toNat = 0
  · rw [if_pos fixed] at wrong
    rw [if_pos fixed, if_pos wrong]
  · rw [if_neg fixed] at wrong
    rw [if_neg fixed, if_pos wrong]

/-- A FIXED value, with a payload of the right length. -/
theorem take_substSet_fixed (num : c.num = channel.toNat) (fixed : kind.toNat = 0) (length : params.length = 2) :
    take (.substSet channel kind params) h =
      if c.inSpan (signedValue params) = false then refuse .badValue 2 h
      else accept (applySubst c (.fixed (signedValue params)) (signedValue params)) (fun t => substBytes (t.substOf c)) h := by
  simp only [take, takeSubstSet, ← num, Channel.ofNum_num, if_neg (show ¬ 1 < kind.toNat by omega), if_pos fixed,
    if_neg (not_not_intro length)]

/-- A RAMP that one of its checks refuses. -/
theorem take_substSet_rampFault {a b p q x y k : Byte} {d : Nat} (num : c.num = channel.toNat)
    (fault : rampFault c (signedValue [a, b]) (signedValue [p, q]) (signedValue [x, y]) k.toNat = some d) :
    take (.substSet channel 1#8 [a, b, p, q, x, y, k]) h = refuse .badValue d h := by
  have last : leValue [k] = k.toNat := by simp [leValue]
  rw [← last] at fault
  simp only [take, takeSubstSet, ← num, Channel.ofNum_num]
  change (match rampFault c (signedValue [a, b]) (signedValue [p, q]) (signedValue [x, y]) (leValue [k]) with
    | some d => refuse .badValue d h
    | none => _) = _
  rw [fault]

/-- A RAMP that passes its checks. -/
theorem take_substSet_ramp {a b p q x y k : Byte} (num : c.num = channel.toNat)
    (fault : rampFault c (signedValue [a, b]) (signedValue [p, q]) (signedValue [x, y]) k.toNat = none) :
    take (.substSet channel 1#8 [a, b, p, q, x, y, k]) h =
      accept (applySubst c (.ramp (signedValue [a, b]) (signedValue [p, q]) (signedValue [x, y]) (decide (k = 1#8)))
        (signedValue [a, b])) (fun t => substBytes (t.substOf c)) h := by
  have last : leValue [k] = k.toNat := by simp [leValue]
  have again : decide (leValue [k] = 1) = decide (k = 1#8) := by rw [last]; simp [BitVec.toNat_eq]
  rw [← last] at fault
  rw [← again]
  simp only [take, takeSubstSet, ← num, Channel.ofNum_num]
  change (match rampFault c (signedValue [a, b]) (signedValue [p, q]) (signedValue [x, y]) (leValue [k]) with
    | some d => refuse .badValue d h
    | none => _) = _
  rw [fault]; rfl

end

theorem inSpan_false_iff (c : Channel) (v : Int) : c.inSpan v = false ↔ ¬ (c.scale.low ≤ v ∧ v ≤ c.scale.high) := by
  simp [Channel.inSpan]

/-- The checks of a RAMP in their order (R187). -/
theorem rampFault_eq (c : Channel) (start step stop : Int) (again : Nat) : rampFault c start step stop again =
    if ¬ ((c.scale.low ≤ start ∧ start ≤ c.scale.high) ∧ (c.scale.low ≤ stop ∧ stop ≤ c.scale.high)) then some 2
    else if ¬ ((0 < step ∧ start < stop) ∨ (step < 0 ∧ stop < start)) then some 3
    else if 1 < again then some 4 else none := by
  have spans : (c.inSpan start && c.inSpan stop) = false ↔
      ¬ ((c.scale.low ≤ start ∧ start ≤ c.scale.high) ∧ (c.scale.low ≤ stop ∧ stop ≤ c.scale.high)) := by
    rw [Bool.and_eq_false_iff, inSpan_false_iff, inSpan_false_iff]; tauto
  have leads : (step = 0 ∨ start = stop ∨ (0 < step ∧ stop < start) ∨ (step < 0 ∧ start < stop)) ↔
      ¬ ((0 < step ∧ start < stop) ∨ (step < 0 ∧ stop < start)) := by omega
  unfold rampFault
  simp only [spans, leads]

/-- SUBST_SET accepted: the reply carries the record put in force, and the channel's record has changed (R32, R187). -/
theorem Hears.substitutes {s h : State} {channel kind : Byte} {params : List Byte} {c : Channel} {k : SubstKind} {next : Int}
    (hears : Hears s h)
    (taken : take (.substSet channel kind params) h = accept (applySubst c k next) (fun t => substBytes (t.substOf c)) h) :
    ∃ t : State, exec (.substSet channel kind params) s =
        .next (t.replied (.substSet channel kind params) (substBytes (some { kind := k, next := next }))) ∧
      t.serv.subst = h.serv.subst.set c (some { kind := k, next := next }) ∧ t.serv.run = h.serv.run ∧
      (∀ d, d ≠ c → t.chan d = h.chan d) ∧
      t.chan c = if (h.chan c).state = .qualifying ∨ (h.chan c).state = .qualified then
          { h.chan c with subst := true, state := .qualifying, window := [], run := 0, value := none }
        else { h.chan c with subst := true } := by
  obtain ⟨serv, own, others⟩ := applySubst_effect c k next h
  have serv' : (h.after (applySubst c k next h)).serv = _ := (State.after_serv _ _).trans serv
  have record : (h.after (applySubst c k next h)).substOf c = some { kind := k, next := next } := by
    unfold State.substOf; rw [serv', PerChannel.get_set_same]
  refine ⟨h.after (applySubst c k next h), ?_, by rw [serv'], by rw [serv'], fun d differs => ?_, ?_⟩
  · have answered := hears.event (.substSet channel kind params) rfl taken nofun
    rwa [record] at answered
  · rw [State.after_chan, others d differs]
  · rw [State.after_chan, own, Chan.substitute_eq]

/-- How a stand-in advances, by its kind (R188). -/
theorem Subst.advance_ramp {r : Subst} {start step stop : Int} {again : Bool} (kind : r.kind = .ramp start step stop again) :
    r.advance =
      if r.next = stop then { r with next := if again then start else stop }
      else if (0 < step ∧ stop ≤ r.next + step) ∨ (step < 0 ∧ r.next + step ≤ stop) then { r with next := stop }
      else { r with next := r.next + step } := by
  unfold Subst.advance; rw [kind]

theorem Subst.advance_fixed {r : Subst} {v : Int} (kind : r.kind = .fixed v) : r.advance = { r with next := v } := by
  unfold Subst.advance; rw [kind]

theorem take_substClear {channel : Byte} (named : channel.toNat < 8 ∨ channel.toNat = 255) (h : State) :
    take (.substClear channel) h =
      accept (eachInTurn clearSubst (indexChannels channel.toNat)) (fun _ => Config.substClearReply channel) h := if_neg (by omega)

/-- Settles O60: the checks of SUBST_SET in their order and its effect, SUBST_CLEAR channel by channel, and the advance by kind. -/
theorem substitutionsReplaceAndAdvance : Obligations.SubstitutionsReplaceAndAdvance := by
  refine ⟨fun channel kind params s listening => ?set, fun channel s listening => ?clear, fun r => ⟨fun v => Subst.advance_fixed, ?ramp⟩⟩
  case set =>
    have hears := listening.hears
    generalize clearSilence s = h at hears ⊢
    refine ⟨fun beyond => hears.refused rfl (take_substSet_noChannel beyond), fun c num => ⟨
      fun unknown => hears.refused rfl (take_substSet_noKind num unknown), ?_, ?_, ?_, ?_⟩⟩
    · rintro rfl wrong
      exact hears.refused rfl (take_substSet_length num (by decide) wrong)
    · rintro rfl wrong
      exact hears.refused rfl (take_substSet_length num (by decide) wrong)
    · rintro a b rfl rfl
      have taken := take_substSet_fixed (h := h) (params := [a, b]) num (kind := 0#8) rfl rfl
      refine ⟨fun out => hears.refused rfl (taken.trans (if_pos ((inSpan_false_iff _ _).mpr out))), fun inside => ?_⟩
      exact hears.substitutes (taken.trans (if_neg fun out => (inSpan_false_iff _ _).mp out inside))
    · rintro a b p q x y k rfl rfl
      have fault := rampFault_eq c (signedValue [a, b]) (signedValue [p, q]) (signedValue [x, y]) k.toNat
      refine ⟨fun out => hears.refused rfl (take_substSet_rampFault num ?_),
        fun low high still => hears.refused rfl (take_substSet_rampFault num ?_),
        fun low high leads beyond => hears.refused rfl (take_substSet_rampFault num ?_),
        fun low high leads known => hears.substitutes (take_substSet_ramp num ?_)⟩
      · rw [fault, if_pos out]
      · rw [fault, if_neg (not_not_intro ⟨low, high⟩), if_pos still]
      · rw [fault, if_neg (not_not_intro ⟨low, high⟩), if_neg (not_not_intro leads), if_pos beyond]
      · rw [fault, if_neg (not_not_intro ⟨low, high⟩), if_neg (not_not_intro leads), if_neg (Nat.not_lt.mpr known)]
  case clear =>
    have hears := listening.hears
    generalize clearSilence s = h at hears ⊢
    refine ⟨fun low high => hears.refused rfl (if_pos ⟨low, by omega⟩), fun index => ?_⟩
    have named : channel.toNat < 8 ∨ channel.toNat = 255 := index.imp_right fun all => by rw [all]; rfl
    have mem : ∀ c, c ∈ indexChannels channel.toNat ↔ channel = 255#8 ∨ c.num = channel.toNat := fun c => by
      rw [mem_indexChannels named c, BitVec.toNat_eq]; rfl
    have effect := clearSubsts_effect channel.toNat h
    simp only [Prod.ext_iff] at effect
    refine ⟨_, _, hears.event (.substClear channel) rfl (take_substClear named h) nofun, ?_, fun c => ⟨fun mine present => ?_, ?_⟩⟩
    all_goals rw [State.after_serv]
    · have run := (effect .rh).2.2
      split_ifs at run <;> exact run
    · obtain ⟨chan, record, -⟩ := effect c
      rw [if_pos ⟨(mem c).mpr mine, present⟩] at chan record
      exact ⟨record, by rw [State.after_chan, chan, Chan.substitute_eq]⟩
    · intro other
      obtain ⟨chan, record, -⟩ := effect c
      have untouched : ¬ (c ∈ indexChannels channel.toNat ∧ h.serv.subst.get c ≠ none) := by
        rw [mem c]; tauto
      rw [if_neg untouched] at chan record
      exact ⟨record, by rw [State.after_chan, chan]⟩
  case ramp =>
    intro start step stop again kind
    have advance := Subst.advance_ramp kind
    refine ⟨fun ended => advance.trans (if_pos ended), fun going reaches => ?_, fun going short => ?_⟩
    · exact advance.trans ((if_neg going).trans (if_pos reaches))
    · exact advance.trans ((if_neg going).trans (if_neg short))

end Sys2Proof.Machine

/-! CLEAN_MODE: the mode, the sensor's power, and the row the Cleaning Controller claims (R27, R61 to R63, R73). -/

namespace Sys2Proof.Machine

/-! The cleaning record and its row (R73) -/

/-- The CLEAN row that a claimed level gives: as it was where the claim has not changed, released for none or 0, else set (R73). -/
def State.cleanRow (s : State) (now : Option Nat) : Row :=
  if now = s.clean.claimed then s.arb.clean
  else if now.getD 0 = 0 then { s.arb.clean with active := false }
  else { active := true, kind := .atLeast, level := now.getD 0, takenAt := s.time.uptime }

/-- A change of the cleaning record: the record and its row, and nothing else. -/
theorem changeClean_eq (f : Cleaning → Cleaning) (s : State) : changeClean f s =
    { s with clean := f s.clean, arb := { s.arb with clean := s.cleanRow (f s.clean).claimed } } := by
  have level : (s.setClean (f s.clean)).clean.claimed = (f s.clean).claimed := rfl
  unfold changeClean placeClean State.cleanRow
  rw [level]
  by_cases same : (f s.clean).claimed = s.clean.claimed
  · simp only [if_pos same]; rfl
  · simp only [if_neg same]
    cases claimed : (f s.clean).claimed with
    | none => rfl
    | some n =>
      simp only [Option.getD_some]
      split <;> rfl

theorem Cleaning.react_notAuto {c : Cleaning} (mode : c.mode ≠ .auto) (u : Setup) (old new : Chan) : c.react u old new = c :=
  if_pos mode

/-- Outside AUTO a change of PM's record reaches that record alone. -/
theorem changeChan_pm_notAuto {s : State} (mode : s.clean.mode ≠ .auto) (f : Chan → Chan) :
    changeChan .pm f s = putChan .pm (f (s.chan .pm)) s :=
  changeClean_same (Cleaning.react_notAuto mode _ _ _)

/-! The sensor's power (R27) -/

/-- PM's record once PM_PWR is on: as it is where the power was on, else the warm-up begins, and with it WARMING for a member that is
OFF. -/
def State.litPm (s : State) : Chan :=
  if s.clean.mode = .off then (s.chan .pm).powerOn s.setup.pmWarmup (s.member .pm) else s.chan .pm

/-- The state once PM_PWR is on. -/
def State.lit (s : State) : State := putChan .pm s.litPm (s.setClean { s.clean with pmPwr := true })

theorem Chan.powerOn_eq (warmup : Nat) (member : Bool) (c : Chan) : c.powerOn warmup member =
    if c.state = .off ∧ member = true then
      { c with warmup := some warmup, state := .warming, window := [], run := 0, value := none }
    else { c with warmup := some warmup } := rfl

theorem Chan.powerOff_eq (c : Chan) : c.powerOff =
    if c.state = .faulted ∨ c.state = .off then { c with warmup := none }
    else { c with warmup := none, state := .off, window := [], run := 0, value := none } := by
  unfold Chan.powerOff Chan.leave
  split <;> rfl

/-- MANUAL and AUTO begin with the power on; in OFF it is switched on, and else it is on already. -/
theorem lit_eq {s : State} (power : s.clean.mode ≠ .off → s.clean.pmPwr = true) :
    (if s.clean.mode = .off then pmPowerOn s else s) = s.lit := by
  unfold State.lit State.litPm
  by_cases off : s.clean.mode = .off
  · rw [if_pos off, if_pos off]
    exact changeChan_pm_notAuto (s := s.setClean { s.clean with pmPwr := true }) (by simp [off]) _
  · rw [if_neg off, if_neg off, ← power off]; rfl

/-! The mode change (R62, R63) -/

section
variable {s : State}

/-- OFF: the record, the released row, and then the power off. -/
theorem applyCleanMode_off (was : s.clean.mode ≠ .off) (level : Nat) :
    applyCleanMode .off level s = { s with
      clean := { s.clean.enterOff with pmPwr := false }, arb := { s.arb with clean := s.cleanRow none },
      chans := s.chans.set .pm (s.chan .pm).powerOff } := by
  have gone : s.clean.enterOff.claimed = none := rfl
  refine (if_neg was).trans ?_
  unfold pmPowerOff
  rw [changeClean_eq, gone, changeChan_pm_notAuto (by simp [Cleaning.enterOff])]; rfl

theorem applyCleanMode_manual (power : s.clean.mode ≠ .off → s.clean.pmPwr = true) (level : Nat) :
    applyCleanMode .manual level s = changeClean (fun c => c.enterManual level) s.lit := by
  rw [← lit_eq power]; rfl

theorem applyCleanMode_auto (was : s.clean.mode ≠ .auto) (power : s.clean.mode ≠ .off → s.clean.pmPwr = true) (level : Nat) :
    applyCleanMode .auto level s = changeClean (fun c => c.enterAuto s.setup s.litPm.value) s.lit := by
  refine (if_neg was).trans ?_
  rw [lit_eq power]; rfl

/-- What an event leaves of a change of the cleaning record made with the power on. -/
theorem after_lit_kept (f : Cleaning → Cleaning) :
    (s.after (changeClean f s.lit)).kept = { s.kept with
      chans := s.chans.set .pm s.litPm, clean := f { s.clean with pmPwr := true },
      rows := (s.cleanRow (f { s.clean with pmPwr := true }).claimed, s.kept.rows.2) } :=
  (event_kept _ _).trans (by rw [changeClean_eq]; rfl)

/-- AUTO is entered with the band of the value, or FLOOR, or the fallback (R63). -/
theorem enterAuto_eq (u : Setup) (pm : Option Int) (c : Cleaning) :
    c.enterAuto u pm = match pm with
      | none => { c with
          mode := .auto, manualLevel := none, band := none, stepDown := none, unqualified := none, basis := some .fallback,
          autoLevel := some u.cleanFallback }
      | some v =>
        match targetBand u.bands v with
        | none => { c with
            mode := .auto, manualLevel := none, band := none, stepDown := none, unqualified := none, basis := some .floor,
            autoLevel := some u.autoFloor }
        | some k => { c with
            mode := .auto, manualLevel := none, stepDown := none, unqualified := none, basis := some .band, band := some k,
            autoLevel := some (u.levelOf (some k)) } := by
  cases pm with
  | none => rfl
  | some v =>
    unfold Cleaning.enterAuto Cleaning.take
    dsimp only
    cases targetBand u.bands v <;> rfl

end

/-! The request (R61) -/

section
variable {mode level : Byte} {h : State}

theorem take_cleanMode_inactive (part : h.link.part ≠ .active) : take (.cleanMode mode level) h = refuse .wrongState 0 h := if_pos part

theorem take_cleanMode_unknown (part : h.link.part = .active) (unknown : 2 < mode.toNat) :
    take (.cleanMode mode level) h = refuse .badValue 0 h := by
  have none : cleanModeOf mode.toNat = none := by unfold cleanModeOf; split <;> first | omega | rfl
  refine (if_neg (not_not_intro part)).trans ?_
  rw [none]

theorem take_cleanMode_level (part : h.link.part = .active) (beyond : level.toNat = 0 ∨ 12 < level.toNat) :
    take (.cleanMode 1#8 level) h = refuse .badValue 1 h := by
  refine (if_neg (not_not_intro part)).trans (if_pos ⟨rfl, ?_⟩)
  simp only [within, Bool.and_eq_false_iff, decide_eq_false_iff_not]
  omega

theorem take_cleanMode {m : CleanMode} (part : h.link.part = .active) (code : cleanModeOf mode.toNat = some m)
    (inside : m = .manual → 1 ≤ level.toNat ∧ level.toNat ≤ 12) :
    take (.cleanMode mode level) h = accept (applyCleanMode m level.toNat) cleanBytes h := by
  refine (if_neg (not_not_intro part)).trans ?_
  rw [code]
  refine if_neg fun beyond => ?_
  obtain ⟨low, high⟩ := inside beyond.1
  simp [within, low, high] at beyond

end

/-! The statement's own spelling of the record, the power and the row -/

section
variable (h : State)

theorem State.litPm_eq : h.litPm =
    if decide (h.clean.mode = .off) = false then h.chan .pm
    else if (h.chan .pm).state = .off ∧ .pm ∈ h.scan.members then
      { h.chan .pm with warmup := some h.setup.pmWarmup, state := .warming, window := [], run := 0, value := none }
    else { h.chan .pm with warmup := some h.setup.pmWarmup } := by
  unfold State.litPm
  rw [Chan.powerOn_eq]
  simp only [State.member, decide_eq_true_eq, decide_eq_false_iff_not]
  by_cases off : h.clean.mode = .off
  · rw [if_pos off, if_neg (not_not_intro off)]
  · rw [if_neg off, if_pos off]

theorem State.cleanRow_none : h.cleanRow none =
    if h.clean.claimed = none then h.arb.clean else { h.arb.clean with active := false } := by
  unfold State.cleanRow
  simp only [eq_comm (a := (none : Option Nat)), Option.getD_none, if_true]

theorem State.cleanRow_level {n : Nat} (positive : 1 ≤ n) : h.cleanRow (some n) =
    if h.clean.claimed = some n then h.arb.clean
    else { active := true, kind := .atLeast, level := n, takenAt := h.time.uptime } := by
  unfold State.cleanRow
  simp only [eq_comm (a := some n), Option.getD_some, if_neg (show ¬ n = 0 by omega)]

/-- The row of a level that AUTO claims, which is never absent (R60, R73). -/
theorem State.cleanRow_auto {c : Cleaning} (mode : c.mode = .auto) (level : c.autoLevel.isSome = true) : h.cleanRow c.claimed =
    if c.claimed = h.clean.claimed then h.arb.clean
    else if c.claimed = some 0 then { h.arb.clean with active := false }
    else { active := true, kind := .atLeast, level := c.autoLevel.getD 0, takenAt := h.time.uptime } := by
  obtain ⟨n, auto⟩ := Option.isSome_iff_exists.mp level
  have claimed : c.claimed = some n := by unfold Cleaning.claimed; rw [mode]; exact auto
  unfold State.cleanRow
  simp only [claimed, auto, Option.getD_some, Option.some.injEq]

end

theorem enterManual_claimed (level : Nat) (c : Cleaning) : (c.enterManual level).claimed = some level := rfl

/-- In AUTO a level is always claimed (R63). -/
theorem enterAuto_level (u : Setup) (pm : Option Int) (c : Cleaning) :
    (c.enterAuto u pm).mode = .auto ∧ (c.enterAuto u pm).autoLevel.isSome = true := by cases pm <;> exact ⟨rfl, rfl⟩

/-- Settles O25: the refusals in their order, and each mode by the record, the power and the row it gives. -/
theorem cleanModeChangesModePowerAndRow : Obligations.CleanModeChangesModePowerAndRow := by
  intro mode level s listening
  have hears := listening.hears
  generalize clearSilence s = h at hears ⊢
  intro h r wasOff pm lit dark idle auto
  have lit_eq : h.litPm = lit := h.litPm_eq
  have dark_eq : (h.chan .pm).powerOff = dark := Chan.powerOff_eq _
  have auto_eq : { h.clean with pmPwr := true }.enterAuto h.setup lit.value = auto := enterAuto_eq _ _ _
  have power {q : Prop} (on : wasOff = false → q) (was : h.clean.mode ≠ .off) : q := on (decide_eq_false was)
  refine ⟨fun part => hears.refused rfl (take_cleanMode_inactive part), fun part => ⟨
    fun unknown => hears.refused rfl (take_cleanMode_unknown part unknown), ?level, ?same, ?off, ?manual, ?auto⟩⟩
  case level =>
    rintro rfl beyond
    exact hears.refused rfl (take_cleanMode_level part beyond)
  case same =>
    rintro (⟨rfl, off⟩ | ⟨rfl, already⟩)
    · have stays : applyCleanMode .off level.toNat h = h := if_pos (of_decide_eq_true off)
      have answered := hears.event (.cleanMode 0#8 level) rfl (take_cleanMode (m := .off) part rfl nofun) nofun
      rwa [stays] at answered
    · have stays : applyCleanMode .auto level.toNat h = h := if_pos already
      have answered := hears.event (.cleanMode 2#8 level) rfl (take_cleanMode (m := .auto) part rfl nofun) nofun
      rwa [stays] at answered
  case off =>
    rintro rfl was
    refine ⟨_, hears.event (.cleanMode 0#8 level) rfl (take_cleanMode (m := .off) part rfl nofun) nofun, ?_⟩
    rw [applyCleanMode_off (of_decide_eq_false was), ← dark_eq, ← h.cleanRow_none]
    exact event_kept _ _
  case manual =>
    rintro rfl low high - on
    refine ⟨_, hears.event (.cleanMode 1#8 level) rfl (take_cleanMode (m := .manual) part rfl fun _ => ⟨low, high⟩) nofun, ?_⟩
    rw [applyCleanMode_manual (power on), after_lit_kept, lit_eq, enterManual_claimed, h.cleanRow_level low]
    rfl
  case auto =>
    rintro rfl was - on
    refine ⟨_, hears.event (.cleanMode 2#8 level) rfl (take_cleanMode (m := .auto) part rfl nofun) nofun, ?_⟩
    have ⟨isAuto, level⟩ := enterAuto_level h.setup lit.value { h.clean with pmPwr := true }
    rw [applyCleanMode_auto was (power on), after_lit_kept, lit_eq, h.cleanRow_auto isAuto level, auto_eq]

end Sys2Proof.Machine

/-! The job tick: the counts of every block, and what each block makes of them (R28, R47, R50 to R57, R67 to R71, R80 to R101, R120, R126,
R142, R145, R149 to R151, R173, R182). -/

namespace Sys2Proof.Machine

/-! The counts -/

theorem tickUp_eq (t : Option Nat) : tickUp t = t.map (· + 1) := by cases t <;> rfl

theorem tickDown_eq (t : Option Nat) : tickDown t = t.map (· - 1) := by cases t <;> rfl

theorem Fan.advance_eq (f : Fan) : f.advance =
    if f.state = .spinningUp ∨ f.state = .stalled then { f with timer := f.timer + 1 }
    else if f.state = .running then { f with timer := if f.edge then 0 else f.timer + 1, runTime := f.runTime + 1 }
    else f := by
  unfold Fan.advance
  cases state : f.state <;> simp

theorem Link.advance_eq (limit : Nat) (l : Link) : l.advance limit =
    { l with silence := if 0 < limit ∧ l.silent = false then l.silence + 1 else l.silence } := by
  unfold Link.advance; split <;> rfl

/-- Every block's counts, written out. -/
theorem tickCounts_eq (s : State) :
    let counting : Bool := decide (s.dry.level = .normal ∧ s.dry.phase = .running)
    let watched : Bool := counting && decide (s.dry.mode ≠ .off ∧ s.setup.optDrain ≠ .gravity)
    let up := Option.map (· + 1)
    tickCounts s = { s with
      time := { uptime := if s.time.uptime = 4294967295 then 0 else s.time.uptime + 1, trim := s.setup.trim, slot := 0,
                tested := false },
      arb := { s.arb with boostRemaining := s.arb.boostRemaining.map (· - 1) },
      fan :=
        if s.fan.state = .spinningUp ∨ s.fan.state = .stalled then { s.fan with timer := s.fan.timer + 1 }
        else if s.fan.state = .running then
          { s.fan with timer := if s.fan.edge then 0 else s.fan.timer + 1, runTime := s.fan.runTime + 1 }
        else s.fan,
      dry := { s.dry with
        onTime := s.dry.onTime.map fun n => min 65534 (n + 1), startWait := up s.dry.startWait, retryWait := up s.dry.retryWait,
        trip := up s.dry.trip, runOn := up s.dry.runOn, coilFrost := up s.dry.coilFrost, idleTimer := up s.dry.idleTimer,
        sampleTimer := up s.dry.sampleTimer, stepTimer := up s.dry.stepTimer, warm := up s.dry.warm, melt := s.dry.melt.map (· - 1),
        runSince := if counting then min 4294967295 (s.dry.runSince + 1) else s.dry.runSince,
        totalRun := if counting then min 4294967295 (s.dry.totalRun + 1) else s.dry.totalRun,
        weak := if watched then min 4294967295 (s.dry.weak + 1) else s.dry.weak },
      clean := { s.clean with
        stepDown := if (s.chan .pm).state = .qualified then up s.clean.stepDown else s.clean.stepDown,
        unqualified := if (s.chan .pm).state = .qualifying then up s.clean.unqualified else s.clean.unqualified },
      chans := s.chans.set .pm { s.chan .pm with warmup := (s.chan .pm).warmup.map (· - 1) },
      water := { s.water with
        drainClear := up s.water.drainClear,
        pump := { s.water.pump with
          elapsed := if s.water.pump.state = .running then s.water.pump.elapsed + 1 else s.water.pump.elapsed,
          rest := up s.water.pump.rest } },
      filt := { s.filt with check := { s.filt.check with retry := up s.filt.check.retry, timer := up s.filt.check.timer } },
      serv := { s.serv with run := s.serv.run.map fun r => { r with remaining := r.remaining.map (· - 1) } },
      link := { s.link with
        silence := if 0 < s.setup.linkSilence ∧ s.link.silent = false then s.link.silence + 1 else s.link.silence } } := by
  intro counting watched up
  have remaining : ServiceRun.advance = fun r => { r with remaining := r.remaining.map (· - 1) } := by
    funext r; unfold ServiceRun.advance; rw [tickDown_eq]
  delta tickCounts TimeBase.advance Drying.advance Cleaning.advance Chan.advance Water.advance countUp maxCount32
  dsimp only
  simp only [Fan.advance_eq, Link.advance_eq, remaining, tickUp_eq, tickDown_eq]
  rfl

/-! The Fan Drive (R51 to R57) -/

theorem Fan.measure_none {f : Fan} (none : f.periods = 0 ∨ f.periodSum = 0) : f.measure = f := if_pos none

theorem Fan.measure_some {f : Fan} (periods : f.periods ≠ 0) (sum : f.periodSum ≠ 0) : f.measure =
    let v := meanRpm f.periods f.periodSum
    let n := min 2 (f.settleCount + 1)
    if inBand f.target v = true then { f with measured := some v, settleCount := n, atLevel := f.atLevel || decide (n = 2) }
    else { f with measured := some v, settleCount := 0 } := if_neg fun h => h.elim periods sum

/-- What a measurement leaves of the drive. -/
def Fan.unmeasured (f : Fan) := (f.state, f.timer, f.runTime, f.stalls, f.fault)

theorem Fan.measure_unmeasured (f : Fan) : f.measure.unmeasured = f.unmeasured := by
  unfold Fan.measure; split
  · rfl
  · dsimp only; split <;> rfl

/-- The drive as its tests at a tick find it: measured, and a new second begun. -/
def State.fanSeen (u : State) : Fan := (if u.fan.state = .running then u.fan.measure else u.fan).newSecond

theorem State.fanSeen_unmeasured (u : State) : u.fanSeen.unmeasured = u.fan.unmeasured := by
  unfold State.fanSeen; split
  · exact u.fan.measure_unmeasured
  · rfl

theorem Fan.stallDue_iff (f : Fan) :
    f.stallDue = true ↔ (f.state = .spinningUp ∧ 3 ≤ f.timer) ∨ (f.state = .running ∧ 2 ≤ f.timer) := by
  unfold Fan.stallDue; cases state : f.state <;> simp

theorem Fan.retryDue_iff (f : Fan) : f.retryDue = true ↔ f.state = .stalled ∧ 10 ≤ f.timer := by
  simp [Fan.retryDue]

theorem Fan.stallsExpire_iff (f : Fan) : f.stallsExpire = true ↔ f.state = .running ∧ f.runTime = 300 := by
  simp [Fan.stallsExpire]

/-- A drive in STALLED is due for a retry, and for no stall. -/
theorem Fan.not_stallDue_of_stalled {f : Fan} (stalled : f.state = .stalled) : ¬ f.stallDue = true := by
  simp [Fan.stallDue, stalled]

section
variable {u : State}

theorem fanTick_stall (stalls : u.fanSeen.stallDue = true) : fanTick u = { u with fan := u.fanSeen.stall } := if_pos stalls

theorem fanTick_retry (retries : u.fanSeen.retryDue = true) : fanTick u = { u with fan := u.fanSeen.retry u.arb.granted } :=
  (if_neg (Fan.not_stallDue_of_stalled (u.fanSeen.retryDue_iff.mp retries).1)).trans (if_pos retries)

/-- A second without a stall or a retry: the stalls may expire, and the air is handed over in RUNNING. -/
theorem fanTick_runs (noStall : ¬ u.fanSeen.stallDue = true) (noRetry : ¬ u.fanSeen.retryDue = true) :
    fanTick u =
      let kept := { u with fan :=
        if u.fanSeen.state = .running ∧ u.fanSeen.runTime = 300 then { u.fanSeen with stalls := 0 } else u.fanSeen }
      if u.fanSeen.state = .running then chargeAir (u.levelEntry u.arb.granted).flow kept else kept := by
  refine ((if_neg noStall).trans (if_neg noRetry)).trans ?_
  have expire : (if u.fanSeen.stallsExpire = true then { u.fanSeen with stalls := 0 } else u.fanSeen) =
      if u.fanSeen.state = .running ∧ u.fanSeen.runTime = 300 then { u.fanSeen with stalls := 0 } else u.fanSeen :=
    if_congr u.fanSeen.stallsExpire_iff rfl rfl
  have running : ((if u.fanSeen.state = .running ∧ u.fanSeen.runTime = 300 then { u.fanSeen with stalls := 0 } else u.fanSeen)
      : Fan).state = u.fanSeen.state := by split <;> rfl
  change handOverVolume (u.setFan (if u.fanSeen.stallsExpire = true then { u.fanSeen with stalls := 0 } else u.fanSeen)) = _
  rw [expire]
  exact if_congr (Eq.congr_left running) rfl rfl

/-- A second charged to the pressure slot counts for the check alone (R136, R142). -/
theorem countCheckSecond_eq (s : State) : ∃ check, countCheckSecond s = { s with filt := { s.filt with check := check } } := by
  unfold countCheckSecond; split
  · exact ⟨s.filt.check, rfl⟩
  · unfold testInterval; dsimp only; split <;> exact ⟨_, rfl⟩

/-- The charge reaches the accounts, and the check that counts it (R135, R136). -/
theorem chargeAir_eq (flow : Nat) (s : State) : ∃ check, chargeAir flow s = { s with filt :=
    { slots := if s.link.part = .active then chargeSlots s.setup.pressureSlot flow s.concentration s.filt.slots else s.filt.slots,
      check := check } } := by
  by_cases active : s.link.part = .active
  · obtain ⟨check, counted⟩ := countCheckSecond_eq
      (s.setFilt { s.filt with slots := chargeSlots s.setup.pressureSlot flow s.concentration s.filt.slots })
    refine ⟨check, (if_pos active).trans ?_⟩
    rw [counted, if_pos active]; rfl
  · exact ⟨s.filt.check, (if_neg active).trans (by rw [if_neg active])⟩

end

/-- The Fan Drive's part of a tick reaches the drive and Filter Accounts. -/
theorem fanTick_eq (u : State) : ∃ fan filt, fanTick u = { u with fan := fan, filt := filt } := by
  by_cases stalls : u.fanSeen.stallDue = true
  · exact ⟨_, _, fanTick_stall stalls⟩
  · by_cases retries : u.fanSeen.retryDue = true
    · exact ⟨_, _, fanTick_retry retries⟩
    · rw [fanTick_runs stalls retries]
      dsimp only
      split
      · obtain ⟨check, charged⟩ := chargeAir_eq (u.levelEntry u.arb.granted).flow { u with fan :=
          if u.fanSeen.state = .running ∧ u.fanSeen.runTime = 300 then { u.fanSeen with stalls := 0 } else u.fanSeen }
        exact ⟨_, _, charged⟩
      · exact ⟨_, _, rfl⟩

/-! What the Drying Controller, the drain, the pump, the check and the service run leave as it is -/

/-- The part of what an event leaves as it is that those blocks' ticks leave as it is too. -/
def Kept.steady (k : Kept) :=
  (k.rst, k.time, k.setup, (k.plan, k.seq, k.members, k.pos, k.converting), k.chans, k.clean,
    (k.boostRemaining, k.rows.2.2, k.hostCeiling), (k.stalls, k.fanFault, k.slots), k.dryMode, (k.weak.1, k.weak.2.1, k.totals.2),
    k.inputs, k.enables, k.serv.subst, k.link)

theorem setDry_steady {s : State} {d : Drying}
    (same : (d.mode, d.setpoint, d.weak, d.riseRef, d.totalRun) =
      (s.dry.mode, s.dry.setpoint, s.dry.weak, s.dry.riseRef, s.dry.totalRun)) :
    (s.setDry d).kept.steady = s.kept.steady := by
  simp only [Prod.mk.injEq] at same
  obtain ⟨mode, setpoint, weak, rise, total⟩ := same
  simp only [Kept.steady, State.kept, State.setDry, mode, setpoint, weak, rise, total]

theorem endServiceRun_kept (s : State) : (endServiceRun s).kept = { s.kept with serv := { s.serv with run := none } } :=
  oneShot_kept 26 _

theorem endServiceRun_steady (s : State) : (endServiceRun s).kept.steady = s.kept.steady := by rw [endServiceRun_kept]; rfl

theorem testWeak_steady (s : State) : (testWeak s).kept.steady = s.kept.steady := by unfold testWeak; split <;> rfl

theorem compFailure_steady (r : FailReason) (s : State) : (compFailure r s).kept.steady = s.kept.steady := by
  have disabling : ∀ u : State, (if u.dry.disabled = true ∧ u.compressorRun = true then endServiceRun u else u).kept.steady =
      u.kept.steady := fun u => by
    split
    · exact endServiceRun_steady u
    · rfl
  unfold compFailure; dsimp only
  rw [disabling, oneShot_kept, publish_kept, setDry_steady (by rfl), toLockout_kept, compOff_kept]

theorem judgeStart_steady (s : State) : (judgeStart s).kept.steady = s.kept.steady := by
  unfold judgeStart; dsimp only
  split
  · rw [compFailure_steady]; rfl
  · split
    · rw [compFailure_steady]; rfl
    · rfl

theorem enterDefrost_steady (s : State) : (enterDefrost s).kept.steady = s.kept.steady := by
  unfold enterDefrost; dsimp only
  rw [takeClaim_kept, setRow_dry_kept, setDry_steady (by rfl), compOff_kept]

theorem runningTick_steady (s : State) : (runningTick s).kept.steady = s.kept.steady := by
  rw [← testWeak_steady s]
  unfold runningTick; dsimp only
  generalize testWeak s = u
  split
  · exact compFailure_steady _ _
  · split
    · rw [enterStopping_kept]
    · split
      · exact enterDefrost_steady u
      · rfl

theorem endDefrost_steady (r : DefrostReason) (s : State) : (endDefrost r s).kept.steady = s.kept.steady := by
  unfold endDefrost; dsimp only
  rw [oneShot_kept, publish_kept, releaseRow_dry_kept, releaseClaim_kept, setDry_steady (by rfl)]

theorem dryTick_steady (s : State) : (dryTick s).kept.steady = s.kept.steady := by
  unfold dryTick
  split
  next hold => rfl
  next defrost =>
    split
    · exact endDefrost_steady _ _
    · rfl
  next normal =>
    split
    next idle => split_ifs <;> rfl
    next starting =>
      split
      · exact compFailure_steady _ _
      · split
        · exact judgeStart_steady _
        · rfl
    next running => exact runningTick_steady s
    next stopping => split <;> rfl
    next lockout => split <;> rfl

theorem endPump_steady (r : PumpResult) (s : State) : (endPump r s).kept.steady = s.kept.steady := by
  unfold endPump; dsimp only
  have ended : ∀ u : State, (oneShot 24 (publish (drainSync (tankSync u)))).kept = u.kept := fun u => by
    rw [oneShot_kept, publish_kept, drainSync_kept, tankSync_kept]
  split
  · split
    · rw [endServiceRun_steady, ended]; rfl
    · rw [ended]; rfl
  · rw [ended]; rfl

theorem pumpTick_steady (s : State) : (pumpTick s).kept.steady = s.kept.steady := by
  unfold pumpTick
  split_ifs <;> first | exact endPump_steady _ _ | rfl

theorem drainTick_kept (s : State) : (drainTick s).kept = s.kept := by unfold drainTick; split <;> rfl

theorem checkTick_kept (s : State) : (checkTick s).kept = s.kept := by
  unfold checkTick; split
  · rfl
  · split
    · exact endCheck_kept _ _
    · rfl

theorem stopService_steady (s : State) : (stopService s).kept.steady = s.kept.steady := by
  unfold stopService
  cases s.serv.run with
  | none => rfl
  | some r =>
    dsimp only
    cases r.kind <;> dsimp only
    case fan => rw [endServiceRun_steady]; rfl
    case compressor => exact endServiceRun_steady s
    case pump =>
      split
      · exact endPump_steady _ _
      · exact endServiceRun_steady s

theorem serviceTick_steady (s : State) : (serviceTick s).kept.steady = s.kept.steady := by
  unfold serviceTick; split
  · exact stopService_steady s
  · rfl

end Sys2Proof.Machine

namespace Sys2Proof.Machine

/-! The boost, the warm-up, the cleaning timers and the silence timer -/

theorem boostTick_eq (s : State) : boostTick s = { s with arb := { s.arb with
    boost := if s.arb.boostRemaining = some 0 then { s.arb.boost with active := false } else s.arb.boost,
    boostRemaining := if s.arb.boostRemaining = some 0 then none else s.arb.boostRemaining } } := by
  by_cases out : s.arb.boostRemaining = some 0
  · rw [if_pos out, if_pos out]; exact if_pos out
  · rw [if_neg out, if_neg out]; exact if_neg out

theorem Chan.warmedUp_notDue {c : Chan} (h : ¬ (c.state = .warming ∧ c.warmup = some 0)) : c.warmedUp = c := if_neg h

/-- A record that has not changed asks nothing of the Cleaning Controller. -/
theorem react_unchanged (u : Setup) (r : Chan) (c : Cleaning) : c.react u r r = c := by
  unfold Cleaning.react
  split
  · rfl
  · cases state : r.state <;> simp
    cases r.value <;> simp

/-- The end of the warm-up reaches PM's record alone. -/
theorem warmTick_eq (s : State) : warmTick s = putChan .pm (s.chan .pm).warmedUp s := by
  by_cases due : (s.chan .pm).state = .warming ∧ (s.chan .pm).warmup = some 0
  · rw [warmTick_due due.1 due.2, Chan.warmedUp_due due.1 due.2]
  · unfold warmTick changeChan
    rw [Chan.warmedUp_notDue due]
    exact changeClean_same (react_unchanged _ _ _)

/-- The cleaning timers reach the cleaning record and its row. -/
theorem cleanTick_eq (s : State) : ∃ clean row, cleanTick s = { s with clean := clean, arb := { s.arb with clean := row } } := by
  unfold cleanTick stepDown carriedStepDown cleanFallback
  cases s.qual .pm <;> dsimp only <;> split_ifs <;> first | exact ⟨_, _, changeClean_eq _ s⟩ | exact ⟨s.clean, s.arb.clean, rfl⟩

theorem cleanTick_idle {s : State} (step : s.stepDownDue = false) (carried : s.carriedDue = false) (fallback : s.fallbackDue = false) :
    cleanTick s = s := by
  simp [cleanTick, step, carried, fallback]

theorem silenceTick_eq (s : State) : silenceTick s = { s with link := { s.link with silent :=
    s.link.silent || (decide (0 < s.setup.linkSilence) && decide (s.setup.linkSilence ≤ s.link.silence)) } } := by
  unfold silenceTick raiseSilence
  by_cases due : s.silenceOver
  · obtain ⟨on, quiet, ended⟩ := due
    rw [if_pos ⟨on, quiet, ended⟩]
    simp only [on, ended, quiet, decide_true, Bool.and_true, Bool.or_true]; rfl
  · rw [if_neg due]
    have stays : (s.link.silent || (decide (0 < s.setup.linkSilence) && decide (s.setup.linkSilence ≤ s.link.silence))) =
        s.link.silent := by
      cases silent : s.link.silent with
      | true => rfl
      | false => simpa [State.silenceOver, silent] using due
    rw [stays]

/-- A record out of warm-up has the value it had, or none. -/
theorem Chan.warmedUp_value (c : Chan) : c.warmedUp.value = c.value ∨ c.warmedUp.value = none := by
  unfold Chan.warmedUp; split
  · exact .inr rfl
  · exact .inl rfl

/-- The end of the warm-up makes no cleaning timer due. -/
theorem warmTick_cleanDue {s : State} (step : s.stepDownDue = false) (carried : s.carriedDue = false) (fallback : s.fallbackDue = false) :
    (warmTick s).stepDownDue = false ∧ (warmTick s).carriedDue = false ∧ (warmTick s).fallbackDue = false := by
  have value : (warmTick s).qual .pm = s.qual .pm ∨ (warmTick s).qual .pm = none := by
    rw [warmTick_eq]; exact (s.chan .pm).warmedUp_value
  have same : (warmTick s).clean = s.clean ∧ (warmTick s).setup = s.setup := by rw [warmTick_eq]; exact ⟨rfl, rfl⟩
  refine ⟨?_, ?_, ?_⟩
  · unfold State.stepDownDue at step ⊢
    rcases value with h | h <;> rw [same.1, same.2, h]
    · exact step
    · simp
  · unfold State.carriedDue at carried ⊢
    rcases value with h | h <;> rw [same.1, same.2, h]
    · exact carried
    · simp
  · unfold State.fallbackDue at fallback ⊢
    rw [same.1]; exact fallback

/-- The silence test reads nothing but what the blocks before it leave as it is. -/
theorem silenceTick_steady {a b : State} (same : a.kept.steady = b.kept.steady) :
    (silenceTick a).kept.steady = (silenceTick b).kept.steady := by
  rw [silenceTick_eq, silenceTick_eq]
  simp only [Kept.steady, State.kept, Prod.mk.injEq] at same ⊢
  obtain ⟨rst, time, setup, scan, chans, clean, boost, fan, mode, weak, inputs, enables, subst, link⟩ := same
  rw [setup, link]
  exact ⟨rst, time, rfl, scan, chans, clean, boost, fan, mode, weak, inputs, enables, subst, rfl⟩

/-- What the late part of a tick leaves as it is: all that the boost, the warm-up, the cleaning timers and the silence leave. -/
theorem tickLate_steady (s : State) :
    (tickLate s).kept.steady = (silenceTick (cleanTick (warmTick (boostTick s)))).kept.steady :=
  silenceTick_steady (by rw [serviceTick_steady, checkTick_kept, pumpTick_steady, drainTick_kept])

/-- Those four reach the boost, PM's record, the cleaning record with its row, and the silence. -/
theorem lateReaches (s : State) : ∃ clean row,
    silenceTick (cleanTick (warmTick (boostTick s))) = { s with
      arb := { s.arb with
        clean := row, boost := if s.arb.boostRemaining = some 0 then { s.arb.boost with active := false } else s.arb.boost,
        boostRemaining := if s.arb.boostRemaining = some 0 then none else s.arb.boostRemaining },
      chans := s.chans.set .pm (s.chan .pm).warmedUp, clean := clean,
      link := { s.link with silent :=
        s.link.silent || (decide (0 < s.setup.linkSilence) && decide (s.setup.linkSilence ≤ s.link.silence)) } } ∧
    (s.stepDownDue = false → s.carriedDue = false → s.fallbackDue = false → clean = s.clean) := by
  obtain ⟨clean, row, cleaned⟩ := cleanTick_eq (warmTick (boostTick s))
  refine ⟨clean, row, ?_, fun step carried fallback => ?_⟩
  · rw [silenceTick_eq, cleaned, warmTick_eq, boostTick_eq]; rfl
  · have early : (boostTick s).stepDownDue = false ∧ (boostTick s).carriedDue = false ∧ (boostTick s).fallbackDue = false := by
      rw [boostTick_eq]; exact ⟨step, carried, fallback⟩
    obtain ⟨step, carried, fallback⟩ := early
    obtain ⟨step, carried, fallback⟩ := warmTick_cleanDue step carried fallback
    have stays := congrArg State.clean (cleaned.symm.trans (cleanTick_idle step carried fallback))
    rw [warmTick_eq, boostTick_eq] at stays
    exact stays

/-! The service run (R182, R185) -/

/-- A run that is in force, if any, is of no kind PUMP. -/
def State.noPumpRun (s : State) : Prop := ∀ r, s.serv.run = some r → r.kind ≠ .pump

theorem endServiceRun_run (s : State) : (endServiceRun s).serv.run = none := congrArg (fun k => k.serv.run) (endServiceRun_kept s)

/-- Only a COMPRESSOR run ends with the Drying Controller's tick (R185). -/
theorem compFailure_run (r : FailReason) (s : State) :
    (compFailure r s).serv.run = s.serv.run ∨ s.compressorRun = true ∧ (compFailure r s).serv.run = none := by
  have disabling : ∀ u : State, u.serv = s.serv →
      (if u.dry.disabled = true ∧ u.compressorRun = true then endServiceRun u else u).serv.run = s.serv.run ∨
        s.compressorRun = true ∧ (if u.dry.disabled = true ∧ u.compressorRun = true then endServiceRun u else u).serv.run = none :=
    fun u same => by
      split
      · next ends =>
        refine .inr ⟨?_, endServiceRun_run u⟩
        have run := ends.2
        unfold State.compressorRun at run ⊢
        rwa [same] at run
      · exact .inl (by rw [same])
  unfold compFailure; dsimp only
  refine disabling _ ?_
  rw [kept_serv (oneShot_kept 22 _), kept_serv (publish_kept _)]
  rfl

theorem judgeStart_run (s : State) :
    (judgeStart s).serv.run = s.serv.run ∨ s.compressorRun = true ∧ (judgeStart s).serv.run = none := by
  unfold judgeStart; dsimp only
  split
  · exact compFailure_run _ _
  · split
    · exact compFailure_run _ _
    · exact .inl rfl

theorem testWeak_serv (s : State) : (testWeak s).serv = s.serv := by unfold testWeak; split <;> rfl

theorem runningTick_run (s : State) :
    (runningTick s).serv.run = s.serv.run ∨ s.compressorRun = true ∧ (runningTick s).serv.run = none := by
  have same := testWeak_serv s
  unfold runningTick State.compressorRun; dsimp only
  rw [← same]
  generalize testWeak s = u
  split
  · exact compFailure_run _ _
  · split
    · exact .inl rfl
    · split
      · exact .inl rfl
      · exact .inl rfl

theorem endDefrost_serv (r : DefrostReason) (s : State) : (endDefrost r s).serv = s.serv := by
  unfold endDefrost; dsimp only
  rw [kept_serv (oneShot_kept 23 _), kept_serv (publish_kept _)]; rfl

theorem dryTick_run (s : State) :
    (dryTick s).serv.run = s.serv.run ∨ s.compressorRun = true ∧ (dryTick s).serv.run = none := by
  unfold dryTick
  split
  next hold => exact .inl rfl
  next defrost =>
    split
    · exact .inl (by rw [endDefrost_serv])
    · exact .inl rfl
  next normal =>
    split
    next idle => split_ifs <;> exact .inl rfl
    next starting =>
      split
      · exact compFailure_run _ _
      · split
        · exact judgeStart_run s
        · exact .inl rfl
    next running => exact runningTick_run s
    next stopping => split <;> exact .inl rfl
    next lockout => split <;> exact .inl rfl

/-- The end of a pump run ends no service run but one of kind PUMP (R186). -/
theorem endPump_run {s : State} (none : s.noPumpRun) (r : PumpResult) : (endPump r s).serv.run = s.serv.run := by
  have ended : ∀ u : State, (oneShot 24 (publish (drainSync (tankSync u)))).serv = u.serv := fun u =>
    kept_serv (by rw [oneShot_kept, publish_kept, drainSync_kept, tankSync_kept])
  unfold endPump; dsimp only
  split
  · next run inForce =>
    rw [ended] at inForce
    rw [if_neg fun h => none run inForce h.2, ended]; rfl
  · rw [ended]; rfl

theorem pumpTick_run {s : State} (none : s.noPumpRun) : (pumpTick s).serv.run = s.serv.run := by
  unfold pumpTick
  split_ifs <;> first | exact endPump_run none _ | rfl

theorem serviceTick_run {s : State} (noPump : s.noPumpRun) :
    (serviceTick s).serv.run = if s.serviceExpired = true then none else s.serv.run := by
  unfold serviceTick
  split
  · next expired =>
    obtain ⟨r, inForce, -⟩ : ∃ r, s.serv.run = some r ∧ r.remaining = some 0 := by
      unfold State.serviceExpired at expired
      split at expired
      · exact ⟨_, ‹_›, of_decide_eq_true expired⟩
      · cases expired
    have kind := noPump r inForce
    unfold stopService
    rw [inForce]; dsimp only
    cases kindEq : r.kind
    · exact endServiceRun_run _
    · exact endServiceRun_run _
    · exact absurd kindEq kind
  · rfl

/-- What becomes of a service run that is not of kind PUMP in the late part of a tick (R182). -/
theorem tickLate_run {s : State} (noPump : s.noPumpRun) :
    (tickLate s).serv.run = if s.serviceExpired = true then none else s.serv.run := by
  have early : (drainTick (cleanTick (warmTick (boostTick s)))).serv = s.serv := by
    obtain ⟨clean, row, cleaned⟩ := cleanTick_eq (warmTick (boostTick s))
    rw [kept_serv (drainTick_kept _), cleaned, warmTick_eq, boostTick_eq]; rfl
  have pumped : (checkTick (pumpTick (drainTick (cleanTick (warmTick (boostTick s)))))).serv.run = s.serv.run := by
    rw [kept_serv (checkTick_kept _), pumpTick_run (fun r h => noPump r (by rwa [early] at h)), early]
  unfold tickLate
  rw [silenceTick_eq]
  have served := serviceTick_run (s := checkTick (pumpTick (drainTick (cleanTick (warmTick (boostTick s))))))
    (fun r h => noPump r (pumped ▸ h))
  unfold State.serviceExpired at served ⊢
  rw [pumped] at served
  exact served

/-! What a tick comes to -/

theorem Fan.stall_counts (f : Fan) :
    f.stall.stalls = min 3 (f.stalls + 1) ∧ f.stall.fault = (f.fault || decide (2 ≤ f.stalls)) := by
  unfold Fan.stall; dsimp only
  split
  · next short => exact ⟨rfl, by simp [Fan.stopped, show ¬ 2 ≤ f.stalls by omega]⟩
  · next third => exact ⟨rfl, by simp [show 2 ≤ f.stalls by omega]⟩

theorem Fan.retry_counts (granted : Nat) (f : Fan) : (f.retry granted).stalls = f.stalls ∧ (f.retry granted).fault = f.fault := by
  unfold Fan.retry; split <;> exact ⟨rfl, rfl⟩

theorem chargeAir_slots (flow : Nat) (s : State) : (chargeAir flow s).filt.slots =
    if s.link.part = .active then chargeSlots s.setup.pressureSlot flow s.concentration s.filt.slots else s.filt.slots := by
  obtain ⟨check, charged⟩ := chargeAir_eq flow s
  rw [charged]

section
variable {u : State}

theorem fanTick_stall_results (stalls : u.fanSeen.stallDue = true) :
    (fanTick u).fan.stalls = min 3 (u.fan.stalls + 1) ∧ (fanTick u).fan.fault = (u.fan.fault || decide (2 ≤ u.fan.stalls)) ∧
      (fanTick u).filt.slots = u.filt.slots := by
  have seen := u.fanSeen_unmeasured
  simp only [Fan.unmeasured, Prod.mk.injEq] at seen
  obtain ⟨-, -, -, count, latch⟩ := seen
  obtain ⟨stallCount, stallLatch⟩ := u.fanSeen.stall_counts
  rw [fanTick_stall stalls]
  exact ⟨by rw [stallCount, count], by rw [stallLatch, latch, count], rfl⟩

theorem fanTick_noStall_results (noStall : ¬ u.fanSeen.stallDue = true) :
    (fanTick u).fan.stalls = (if u.fan.state = .running ∧ u.fan.runTime = 300 then 0 else u.fan.stalls) ∧
      (fanTick u).fan.fault = u.fan.fault ∧
      (fanTick u).filt.slots = if u.fan.state = .running then (chargeAir (u.levelEntry u.arb.granted).flow u).filt.slots
        else u.filt.slots := by
  have seen := u.fanSeen_unmeasured
  simp only [Fan.unmeasured, Prod.mk.injEq] at seen
  obtain ⟨state, -, time, count, latch⟩ := seen
  by_cases retries : u.fanSeen.retryDue = true
  · have stalled : u.fan.state = .stalled := state.symm.trans (u.fanSeen.retryDue_iff.mp retries).1
    obtain ⟨retryCount, retryLatch⟩ := u.fanSeen.retry_counts u.arb.granted
    rw [fanTick_retry retries]
    refine ⟨?_, by rw [retryLatch, latch], ?_⟩
    · rw [if_neg fun h => absurd (stalled.symm.trans h.1) (by decide), retryCount, count]
    · rw [if_neg fun h => absurd (stalled.symm.trans h) (by decide)]
  · rw [fanTick_runs noStall retries, ← state, ← time, ← count, ← latch]
    dsimp only
    by_cases running : u.fanSeen.state = .running
    · obtain ⟨check, charged⟩ := chargeAir_eq (u.levelEntry u.arb.granted).flow { u with fan :=
        if u.fanSeen.state = .running ∧ u.fanSeen.runTime = 300 then { u.fanSeen with stalls := 0 } else u.fanSeen }
      rw [if_pos running, charged, if_pos running, chargeAir_slots]
      refine ⟨?_, ?_, rfl⟩ <;> dsimp only <;> split <;> rfl
    · rw [if_neg running, if_neg running]
      refine ⟨?_, ?_, rfl⟩ <;> dsimp only <;> split <;> rfl

end

section
variable (s : State)

theorem tickCounts_fan : (tickCounts s).fan = s.fan.advance := rfl

theorem Fan.advance_counts (f : Fan) : f.advance.state = f.state ∧ f.advance.stalls = f.stalls ∧ f.advance.fault = f.fault ∧
    (f.state = .running → f.advance.runTime = f.runTime + 1) := by
  unfold Fan.advance
  cases state : f.state <;> simp [state]

/-- The stall that a tick finds, by the record before it (R50, R51, R53). -/
theorem tickStalls_iff : (tickCounts s).fanSeen.stallDue = true ↔
    (s.fan.state = .spinningUp ∧ 2 ≤ s.fan.timer) ∨ (s.fan.state = .running ∧ s.fan.edge = false ∧ 1 ≤ s.fan.timer) := by
  have seen := (tickCounts s).fanSeen_unmeasured
  simp only [Fan.unmeasured, Prod.mk.injEq, tickCounts_fan] at seen
  obtain ⟨state, timer, -⟩ := seen
  rw [Fan.stallDue_iff, state, timer, Fan.advance_eq]
  cases fan : s.fan.state <;> simp [fan]
  cases s.fan.edge <;> simp

/-- Closing a tick reaches the note that its tests have been made, and the order of the pending list (log entries 28 and 51). -/
theorem closed_kept (s u : State) : (closeTick (inIdOrder s u)).kept = { u.kept with time := { u.kept.time with tested := true } } := rfl

/-- What the late part of a tick makes of what an event leaves as it is, with the cleaning record that it comes to: the boost, PM's
warm-up, the silence, and the note of the tests. -/
def Kept.tickedLate (clean : Cleaning) (k : Kept) : Kept := { k with
  time := { k.time with tested := true }, chans := k.chans.set .pm (k.chans.get .pm).warmedUp, clean := clean,
  boostRemaining := if k.boostRemaining = some 0 then none else k.boostRemaining,
  rows := (k.rows.1, k.rows.2.1, if k.boostRemaining = some 0 then { k.rows.2.2 with active := false } else k.rows.2.2),
  link := { k.link with silent :=
    k.link.silent || (decide (0 < k.setup.linkSilence) && decide (k.setup.linkSilence ≤ k.link.silence)) } }

theorem Kept.tickedLate_steady {a b : Kept} (same : a.steady = b.steady) (clean : Cleaning) :
    (a.tickedLate clean).steady = (b.tickedLate clean).steady := by
  simp only [Kept.steady, Prod.mk.injEq] at same
  obtain ⟨rst, time, setup, ⟨plan, seq, members, pos, conv⟩, chans, -, ⟨remaining, boost, ceiling⟩, ⟨stalls, fault, slots⟩, mode,
    ⟨weak, rise, total⟩, inputs, enables, subst, link⟩ := same
  simp only [Kept.steady, Kept.tickedLate, rst, time, setup, plan, seq, members, pos, conv, chans, remaining, boost, ceiling, stalls,
    fault, slots, mode, weak, rise, total, inputs, enables, subst, link]

/-- A cleaning timer is due by the cleaning record, the setup and PM's record. -/
theorem cleanDue_congr {a b : State} (setup : a.setup = b.setup) (chans : a.chans = b.chans) (clean : a.clean = b.clean) :
    a.stepDownDue = b.stepDownDue ∧ a.carriedDue = b.carriedDue ∧ a.fallbackDue = b.fallbackDue := by
  have value : a.qual .pm = b.qual .pm := by unfold State.qual State.chan; rw [chans]
  unfold State.stepDownDue State.carriedDue State.fallbackDue
  rw [setup, clean, value]
  exact ⟨rfl, rfl, rfl⟩

theorem jobTick_kept (s : State) : (jobTick s).kept = { (tickLate (event tickEarly s)).kept with
    time := { (tickLate (event tickEarly s)).kept.time with tested := true } } := by
  unfold jobTick; rw [closed_kept, event_kept tickLate]

/-- The whole tick by what no consequence reaches: the counts, the Fan Drive, and the late part. -/
theorem jobTick_steady (s : State) :
    let c := tickCounts s
    ∃ clean, (jobTick s).kept.steady = ((fanTick c).kept.tickedLate clean).steady ∧
      (c.stepDownDue = false → c.carriedDue = false → c.fallbackDue = false → clean = c.clean) := by
  intro c
  have early : (event tickEarly s).kept.steady = (fanTick c).kept.steady := by
    rw [event_kept]; unfold tickEarly; exact dryTick_steady (fanTick c)
  have late := tickLate_steady (event tickEarly s)
  obtain ⟨clean, row, reached, idle⟩ := lateReaches (event tickEarly s)
  rw [reached] at late
  rw [jobTick_kept]
  generalize event tickEarly s = e at *
  refine ⟨clean, ?_, fun step carried fallback => ?_⟩
  · rw [← Kept.tickedLate_steady early clean]
    generalize (tickLate e).kept = l at late ⊢
    simp only [Kept.steady, Prod.mk.injEq] at late ⊢
    obtain ⟨rst, time, rest⟩ := late
    exact ⟨rst, by rw [time]; rfl, rest⟩
  · obtain ⟨fan, filt, fanned⟩ := fanTick_eq c
    rw [fanned] at early
    simp only [Kept.steady, State.kept, Prod.mk.injEq] at early
    obtain ⟨-, -, setup, -, chans, sameClean, -⟩ := early
    obtain ⟨stepSame, carriedSame, fallbackSame⟩ := cleanDue_congr setup chans sameClean
    rw [← sameClean]
    exact idle (stepSame.trans step) (carriedSame.trans carried) (fallbackSame.trans fallback)

/-- JOB_TICK where a tick is due. -/
theorem exec_jobTick {s : State} (running : s.rst.inReset = false) (due : s.tickDue) : exec .jobTick s = .next (jobTick s) := by
  have taken : exec .jobTick s = .next (if s.rst.inReset then s else if s.tickDue then jobTick s else s) := rfl
  rw [taken, if_neg (by simp [running]), if_pos due]

/-- A tick is two events and one order of what they add (log entries 10 and 28). -/
theorem jobTick_eq :
    let early := s.after (dryTick (fanTick (tickCounts s)))
    jobTick s = { inIdOrder s (early.after (tickLate early)) with time := { (tickCounts s).time with tested := true } } := by
  intro early
  obtain ⟨clean, steady, -⟩ := jobTick_steady s
  obtain ⟨fan, filt, fanned⟩ := fanTick_eq (tickCounts s)
  rw [fanned] at steady
  have time : (jobTick s).time = { (tickCounts s).time with tested := true } := congrArg (fun k => k.2.1) steady
  have events : jobTick s = closeTick (inIdOrder s (early.after (tickLate early))) := by
    unfold jobTick
    rw [event_after tickEarly, event_after tickLate]; rfl
  rw [← time, events]; rfl

/-- What becomes at a tick of a service run with seconds remaining: it goes on, or ends as they run out, or is a COMPRESSOR run that ends
with a failure (R182, R185). -/
theorem jobTick_run {r : ServiceRun} {n : Nat} (inForce : s.serv.run = some r) (remaining : r.remaining = some n)
    (kind : r.kind ≠ .pump) :
    (jobTick s).serv.run = (if n ≤ 1 then none else some { r with remaining := some (n - 1) }) ∨
      r.kind = .compressor ∧ (jobTick s).serv.run = none := by
  have counted : (tickCounts s).serv.run = some { r with remaining := some (n - 1) } := by
    change s.serv.run.map ServiceRun.advance = _
    rw [inForce]
    simp [ServiceRun.advance, remaining, tickDown]
  have fanned : (fanTick (tickCounts s)).serv = (tickCounts s).serv := by
    obtain ⟨fan, filt, fanned⟩ := fanTick_eq (tickCounts s)
    rw [fanned]
  have early : (event tickEarly s).serv = (dryTick (fanTick (tickCounts s))).serv := by rw [event_serv, tickEarly]
  have late : (jobTick s).serv.run = (tickLate (event tickEarly s)).serv.run := by
    have closed : ∀ u : State, (closeTick (inIdOrder s u)).serv = u.serv := fun _ => rfl
    unfold jobTick; rw [closed, event_serv]
  rw [late]
  rcases dryTick_run (fanTick (tickCounts s)) with goesOn | ⟨compressor, ended⟩
  · rw [fanned, counted, ← early] at goesOn
    have noPump : (event tickEarly s).noPumpRun := fun x h => by
      rw [goesOn] at h; obtain rfl := Option.some.inj h; exact kind
    have expired : (event tickEarly s).serviceExpired = decide (n ≤ 1) := by
      simp only [State.serviceExpired, goesOn, Option.some.injEq, decide_eq_decide]
      omega
    rw [tickLate_run noPump, goesOn, expired]
    simp
  · rw [← early] at ended
    have noPump : (event tickEarly s).noPumpRun := fun x h => by rw [ended] at h; cases h
    unfold State.compressorRun at compressor
    rw [fanned, counted] at compressor
    refine .inr ⟨of_decide_eq_true compressor, ?_⟩
    rw [tickLate_run noPump, ended]
    split <;> rfl

end

end Sys2Proof.Machine

/-! The results of a tick that no consequence reaches (R28, R50, R51, R69, R126, R135, R173, R182). -/

namespace Sys2Proof.Machine

/-- PM's record after a second, by what it was: the warm-up counts down and ends (R28, R69). -/
def Chan.warmed (r : Chan) : Chan := { r with warmup := r.warmup.map (· - 1) }.warmedUp

theorem Chan.warmed_none {r : Chan} (out : r.warmup = none) : r.warmed = r := by
  unfold Chan.warmed
  rw [Chan.warmedUp_notDue fun due => by simp [out] at due, out]
  cases r; cases out; rfl

theorem Chan.warmed_due {r : Chan} {n : Nat} (left : r.warmup = some n) (warming : r.state = .warming) (last : n ≤ 1) :
    r.warmed = { r with warmup := some 0, state := .qualifying, window := [], run := 0, value := none } := by
  have none : r.warmup.map (· - 1) = some 0 := by simp [left]; omega
  unfold Chan.warmed
  rw [none]
  exact Chan.warmedUp_due (c := { r with warmup := some 0 }) warming rfl

theorem Chan.warmed_goesOn {r : Chan} {n : Nat} (left : r.warmup = some n) (goesOn : r.state ≠ .warming ∨ 1 < n) :
    r.warmed = { r with warmup := some (n - 1) } := by
  unfold Chan.warmed
  rw [left, Chan.warmedUp_notDue fun due => ?_]; rfl
  obtain ⟨warming, out⟩ := due
  have last : n - 1 = 0 := Option.some.inj out
  exact goesOn.elim (fun other => other warming) (by omega)

/-- The silence is over by the count as it stands before the tick. -/
theorem silentAfter (silent : Bool) (limit n : Nat) :
    (silent || (decide (0 < limit) && decide (limit ≤ if 0 < limit ∧ silent = false then n + 1 else n))) =
      (silent || (decide (0 < limit) && decide (limit ≤ n + 1))) := by
  cases silent with
  | true => rfl
  | false =>
    by_cases on : 0 < limit
    · rw [if_pos ⟨on, rfl⟩]
    · simp [on]

theorem PerChannel.set_set {α} (p : PerChannel α) (c : Channel) (a b : α) : (p.set c a).set c b = p.set c b := by cases c <;> rfl

section
variable (s : State)

/-- Counting leaves the volume that a second in RUNNING hands over as it is. -/
theorem tickCounts_charge :
    (chargeAir ((tickCounts s).levelEntry (tickCounts s).arb.granted).flow (tickCounts s)).filt.slots =
      (chargeAir (s.levelEntry s.arb.granted).flow s).filt.slots := by
  have part : (tickCounts s).link.part = s.link.part := by
    change (s.link.advance s.setup.linkSilence).part = _
    rw [Link.advance_eq]
  rw [chargeAir_slots, chargeAir_slots, part]; rfl

/-- What a tick does to the stall count, the fan fault and the accounts (R51, R53, R135). -/
theorem fanTick_results :
    let t := fanTick (tickCounts s)
    let stalls := (s.fan.state = .spinningUp ∧ 2 ≤ s.fan.timer) ∨ (s.fan.state = .running ∧ s.fan.edge = false ∧ 1 ≤ s.fan.timer)
    let charged := s.fan.state = .running ∧ s.link.part = .active ∧ ¬ stalls
    (stalls → t.fan.stalls = min 3 (s.fan.stalls + 1) ∧ t.fan.fault = (s.fan.fault || decide (2 ≤ s.fan.stalls))) ∧
    (¬ stalls → t.fan.fault = s.fan.fault ∧
      t.fan.stalls = if s.fan.state = .running ∧ s.fan.runTime = 299 then 0 else s.fan.stalls) ∧
    (charged → t.filt.slots = (chargeAir (s.levelEntry s.arb.granted).flow s).filt.slots) ∧
    (¬ charged → t.filt.slots = s.filt.slots) := by
  intro t stalls charged
  obtain ⟨state, count, latch, time⟩ := s.fan.advance_counts
  have slots : (tickCounts s).filt.slots = s.filt.slots := rfl
  by_cases stalled : stalls
  · obtain ⟨tCount, tLatch, tSlots⟩ := fanTick_stall_results ((tickStalls_iff s).mpr stalled)
    rw [tickCounts_fan, count] at tCount
    rw [tickCounts_fan, count, latch] at tLatch
    exact ⟨fun _ => ⟨tCount, tLatch⟩, fun none => absurd stalled none, fun h => absurd stalled h.2.2, fun _ => tSlots.trans slots⟩
  · obtain ⟨tCount, tLatch, tSlots⟩ := fanTick_noStall_results (mt (tickStalls_iff s).mp stalled)
    rw [tickCounts_fan, state, count] at tCount
    rw [tickCounts_fan, latch] at tLatch
    rw [tickCounts_fan, state, tickCounts_charge] at tSlots
    refine ⟨fun h => absurd h stalled, fun _ => ⟨tLatch, tCount.trans (if_congr ?_ rfl rfl)⟩, fun h => ?_, fun h => ?_⟩
    · exact and_congr_right fun running => by rw [time running]; omega
    · rw [if_pos h.1] at tSlots; exact tSlots
    · refine tSlots.trans ?_
      split
      · next running =>
        rw [chargeAir_slots, if_neg fun active => h ⟨running, active, stalled⟩]
      · exact slots

/-- What a FAN or a COMPRESSOR run comes to at a tick (R182). -/
theorem jobTick_fanRun {r : ServiceRun} {n : Nat} (inForce : s.serv.run = some r) (fan : r.kind = .fan)
    (remaining : r.remaining = some n) :
    (jobTick s).serv.run = if n ≤ 1 then none else some { r with remaining := some (n - 1) } :=
  (jobTick_run s inForce remaining (by simp [fan])).resolve_right fun h => by simp [fan] at h

theorem jobTick_compressorRun {r : ServiceRun} {n : Nat} (inForce : s.serv.run = some r) (compressor : r.kind = .compressor)
    (remaining : r.remaining = some n) (last : n ≤ 1) : (jobTick s).serv.run = none := by
  rcases jobTick_run s inForce remaining (by simp [compressor]) with run | ⟨-, run⟩
  · rw [run, if_pos last]
  · exact run

/-- The results of a tick, block by block, by the record before it and the counts. -/
theorem jobTick_results : ∃ clean,
    let t := jobTick s
    let c := tickCounts s
    (c.stepDownDue = false → c.carriedDue = false → c.fallbackDue = false → clean = c.clean) ∧
    (t.rst, t.time, t.setup, t.clean) = (s.rst, { c.time with tested := true }, s.setup, clean) ∧
    (t.scan.plan, t.scan.seq, t.scan.members, t.scan.pos, t.scan.converting) =
      (s.scan.plan, s.scan.seq, s.scan.members, s.scan.pos, s.scan.converting) ∧
    t.chans = s.chans.set .pm (s.chan .pm).warmed ∧
    (t.arb.boostRemaining, t.arb.boost, t.arb.hostCeiling) =
      (if c.arb.boostRemaining = some 0 then none else c.arb.boostRemaining,
        if c.arb.boostRemaining = some 0 then { s.arb.boost with active := false } else s.arb.boost, s.arb.hostCeiling) ∧
    (t.fan.stalls, t.fan.fault, t.filt.slots) = ((fanTick c).fan.stalls, (fanTick c).fan.fault, (fanTick c).filt.slots) ∧
    (t.kept.dryMode, t.dry.weak, t.dry.riseRef, t.dry.totalRun) = (s.kept.dryMode, c.dry.weak, s.dry.riseRef, c.dry.totalRun) ∧
    (t.kept.inputs, t.kept.enables, t.serv.subst) = (s.kept.inputs, s.kept.enables, s.serv.subst) ∧
    t.link = { c.link with silent :=
      s.link.silent || (decide (0 < s.setup.linkSilence) && decide (s.setup.linkSilence ≤ s.link.silence + 1)) } := by
  obtain ⟨clean, steady, idle⟩ := jobTick_steady s
  obtain ⟨fan, filt, fanned⟩ := fanTick_eq (tickCounts s)
  refine ⟨clean, idle, ?_⟩
  have link : (tickCounts s).link = s.link.advance s.setup.linkSilence := rfl
  have pm : (tickCounts s).chans = s.chans.set .pm { s.chan .pm with warmup := (s.chan .pm).warmup.map (· - 1) } := by
    rw [tickCounts_eq]
  rw [fanned] at steady ⊢
  simp only [Kept.steady, State.kept, Kept.tickedLate, Prod.mk.injEq] at steady ⊢
  rw [pm, PerChannel.get_set_same, link, Link.advance_eq] at steady
  obtain ⟨rst, time, setup, scan, chans, cleaned, boost, fan, ⟨mode, setpoint⟩, dry, inputs, enables, subst, silence⟩ := steady
  refine ⟨⟨rst, time, setup, cleaned⟩, scan, ?_, boost, fan, ⟨⟨mode, setpoint⟩, dry⟩, ⟨inputs, enables, subst⟩, ?_⟩
  · rw [chans, PerChannel.set_set]; rfl
  · rw [silence, link, Link.advance_eq, ← silentAfter]; rfl

end

/-- Settles O48: every block counts in one update, the Fan Drive's part of the tick follows its record, and the tick is two events and one
order; last, what the consequences leave is what the counts, the drive and the late part made. -/
theorem tickCountsASecond : Obligations.TickCountsASecond := by
  refine ⟨fun f => ⟨Fan.measure_none, Fan.measure_some⟩, fun u => ?drive, ?tick⟩
  case drive =>
    intro f stalls retries kept
    refine ⟨fun h => fanTick_stall ((u.fanSeen.stallDue_iff).mpr h), fun h => fanTick_retry ((u.fanSeen.retryDue_iff).mpr h),
      fun noStall noRetry => fanTick_runs (mt u.fanSeen.stallDue_iff.mp noStall) (mt u.fanSeen.retryDue_iff.mp noRetry)⟩
  case tick =>
    intro s running idle slot counting watched up counted early
    have counts : counted = tickCounts s := (tickCounts_eq s).symm
    have remaining : counted.arb.boostRemaining = s.arb.boostRemaining.map (· - 1) := rfl
    clear_value counted
    subst counts
    have ticked := exec_jobTick running ⟨idle, slot⟩
    obtain ⟨clean, cleanIdle, results⟩ := jobTick_results s
    simp only [Prod.mk.injEq] at results
    obtain ⟨⟨rst, time, setup, cleaned⟩, scan, chans, ⟨boostLeft, boost, ceiling⟩, ⟨stalls, fault, slots⟩,
      ⟨mode, weak, rise, total⟩, ⟨inputs, enables, subst⟩, link⟩ := results
    have other : ∀ c, c ≠ .pm → (jobTick s).chan c = s.chan c := fun c h => by
      unfold State.chan; rw [chans]; exact PerChannel.get_set_other _ _ _ _ h
    have pm : (jobTick s).chan .pm = (s.chan .pm).warmed := by
      unfold State.chan; rw [chans]; exact PerChannel.get_set_same _ _ _
    refine ⟨by rw [ticked, jobTick_eq], jobTick s, ticked, time, weak, rise, fun a b c => cleaned.trans (cleanIdle a b c), setup, rst,
      subst, inputs, mode, enables, ceiling, ?_, link, fun none => ?_, fun n left => ⟨fun last => ?_, fun goesOn => ?_⟩, other,
      fun none => pm.trans (Chan.warmed_none none), fun n left => ⟨fun warming last => ?_, fun goesOn => ?_⟩,
      fun r n => jobTick_fanRun s, fun r n => jobTick_compressorRun s, ?_, total⟩
    · simpa only [Prod.mk.injEq] using scan
    · simp [boostLeft, boost, remaining, none]
    · have out : (tickCounts s).arb.boostRemaining = some 0 := by simp [remaining, left]; omega
      simp only [boostLeft, boost, if_pos out, and_self]
    · have more : (tickCounts s).arb.boostRemaining = some (n - 1) := by simp [remaining, left]
      have notOut : ¬ (tickCounts s).arb.boostRemaining = some 0 := by simp [more]; omega
      rw [boostLeft, boost, if_neg notOut, if_neg notOut]
      exact ⟨more, rfl⟩
    · exact pm.trans (Chan.warmed_due left warming last)
    · exact pm.trans (Chan.warmed_goesOn left goesOn)
    · rw [stalls, fault, slots]; exact fanTick_results s

end Sys2Proof.Machine

/-! The readers of an input or of a reading (R25, R44, R45, R55, R66 to R71, R83 to R94, R104, R115 to R126, R137, R145 to R147, R154,
R158, R160), one lemma for each. -/

namespace Sys2Proof.Machine

/-! The ends of a pump run and of a check, as the statements write them (R126, R147) -/

theorem waterMoved_eq (s : State) : s.waterMoved = s.movedBy := rfl

/-- The end of a run, written out. -/
theorem endPump_eq (r : PumpResult) (s : State) : endPump r s = s.pumpEnded r := by
  have unmeasured : (if s.waterMoved.isNone = true then min maxCount16 (s.water.unknownRuns + 1) else s.water.unknownRuns) =
      if s.movedBy = none then min 65535 (s.water.unknownRuns + 1) else s.water.unknownRuns := by
    rw [waterMoved_eq]; exact if_congr Option.isNone_iff_eq_none rfl rfl
  have serv : ∀ w, (oneShot 24 (publish (drainSync (tankSync (releaseClaim .water (s.setWater w)))))).serv = s.serv := fun w =>
    kept_serv (b := releaseClaim .water (s.setWater w)) (by rw [oneShot_kept, publish_kept, drainSync_kept, tankSync_kept])
  unfold endPump State.pumpEnded Water.endRun
  rw [unmeasured]; dsimp only
  rw [serv]
  cases s.serv.run with
  | none => cases r <;> rfl
  | some run => simp only [decide_eq_true_eq]; cases r <;> rfl

theorem endCheck_eq {r : CheckResult} (notReset : r ≠ .abortedReset) (s : State) : endCheck r s = s.checkEnded r := by
  have closes : r.closes = decide (r = .done ∨ r = .removed) := by cases r <;> first | rfl | exact absurd rfl notReset
  unfold endCheck State.checkEnded
  rw [closes]
  rfl

theorem endPump_held (r : PumpResult) (s : State) : (endPump r s).water.held = s.water.held ∧ (endPump r s).setup = s.setup := by
  have ended : ∀ u : State, (oneShot 24 (publish (drainSync (tankSync u)))).kept = u.kept := fun u => by
    rw [oneShot_kept, publish_kept, drainSync_kept, tankSync_kept]
  have served : ∀ u : State, (endServiceRun u).kept.water.1 = u.kept.water.1 ∧ (endServiceRun u).kept.setup = u.kept.setup :=
    fun u => by rw [endServiceRun_kept]; exact ⟨rfl, rfl⟩
  change (endPump r s).kept.water.1 = s.kept.water.1 ∧ (endPump r s).kept.setup = s.kept.setup
  unfold endPump; dsimp only
  split
  · split
    · rw [(served _).1, (served _).2, ended]; exact ⟨rfl, rfl⟩
    · rw [ended]; exact ⟨rfl, rfl⟩
  · rw [ended]; exact ⟨rfl, rfl⟩

/-! The Event Latch (R158, R160) -/

theorem latchIn_absent {id : Nat} {edge : Edge} (cause : Option ResetCause) {l : List EventEntry}
    (absent : ∀ x ∈ l, ¬ (x.id = id ∧ x.edge = edge)) :
    latchIn id edge cause l = l ++ [{ id := id, edge := edge, count := 1, cause := cause }] := by
  induction l with
  | nil => rfl
  | cons x xs ih =>
    obtain ⟨other, others⟩ := List.forall_mem_cons.mp absent
    rw [latchIn, if_neg other, ih others]; rfl

theorem latchIn_present {id : Nat} {edge : Edge} (cause : Option ResetCause) {a b : List EventEntry} {e : EventEntry}
    (sameId : e.id = id) (sameEdge : e.edge = edge) (first : ∀ x ∈ a, ¬ (x.id = id ∧ x.edge = edge)) :
    latchIn id edge cause (a ++ e :: b) = a ++ { e with count := min 15 (e.count + 1) } :: b := by
  induction a with
  | nil => exact if_pos ⟨sameId, sameEdge⟩
  | cons x xs ih =>
    obtain ⟨other, others⟩ := List.forall_mem_cons.mp first
    rw [List.cons_append, latchIn, if_neg other, ih others]; rfl

theorem oneShot_enabled {id : Nat} {s : State} (enabled : s.ev.onceEn[id - 21]? = some true) :
    oneShot id s = { s with ev := { s.ev with list := latchIn id .once none s.ev.list } } := by
  refine if_pos ?_
  rw [List.getD_eq_getElem?_getD, enabled]; rfl

theorem oneShot_disabled {id : Nat} {s : State} (disabled : s.ev.onceEn[id - 21]? ≠ some true) : oneShot id s = s := by
  refine if_neg fun on => disabled ?_
  rw [List.getD_eq_getElem?_getD] at on
  cases at_ : s.ev.onceEn[id - 21]? with
  | none => rw [at_] at on; cases on
  | some b => rw [at_] at on; exact congrArg some on

/-- What one condition's values latch: its edge, where that is enabled. -/
def latchOne (id : Nat) (new old rise fall : Bool) (l : List EventEntry) : List EventEntry :=
  if new = true ∧ old = false then if rise = true then latchIn id .rise none l else l
  else if new = false ∧ old = true then if fall = true then latchIn id .fall none l else l
  else l

theorem latchEdges_cons (id : Nat) (new old rise fall : Bool) (news olds rises falls : List Bool) (l : List EventEntry) :
    latchEdges id (new :: news) (old :: olds) (rise :: rises) (fall :: falls) l =
      latchEdges (id + 1) news olds rises falls (latchOne id new old rise fall l) := by
  unfold latchOne
  cases new <;> cases old <;> rfl

/-- The edges of all conditions, one after the other from the first id. -/
theorem latchEdges_eq_foldl : ∀ (news olds rises falls : List Bool) (id : Nat) (l : List EventEntry),
    olds.length = news.length → rises.length = news.length → falls.length = news.length →
    latchEdges id news olds rises falls l = (List.range news.length).foldl (fun l k =>
      latchOne (id + k) (news.getD k false) (olds.getD k false) (rises.getD k false) (falls.getD k false) l) l
  | [], [], [], [], _, _, _, _, _ => rfl
  | new :: news, old :: olds, rise :: rises, fall :: falls, id, l, hOld, hRise, hFall => by
    rw [latchEdges_cons, latchEdges_eq_foldl news olds rises falls (id + 1) _ (Nat.succ.inj hOld) (Nat.succ.inj hRise)
      (Nat.succ.inj hFall), List.length_cons, List.range_succ_eq_map, List.foldl_cons, List.foldl_map]
    simp only [List.getD_cons_zero, List.getD_cons_succ, Nat.add_zero, Nat.add_assoc, Nat.add_comm 1]

theorem publish_eq {s : State} (stored : s.ev.stored.length = 21) (rise : s.ev.riseEn.length = 21) (fall : s.ev.fallEn.length = 21) :
    let nth := fun (l : List Bool) (k : Nat) => l.getD k false
    publish s = { s with ev := { s.ev with
      stored := conditions s,
      list := (List.range 21).foldl (fun l k =>
        latchOne k (nth (conditions s) k) (nth s.ev.stored k) (nth s.ev.riseEn k) (nth s.ev.fallEn k) l) s.ev.list } } := by
  intro nth
  have edges := latchEdges_eq_foldl (conditions s) s.ev.stored s.ev.riseEn s.ev.fallEn 0 s.ev.list stored rise fall
  simp only [Nat.zero_add] at edges
  unfold publish
  rw [edges]; rfl

end Sys2Proof.Machine

/-! What each reader makes of an input or of a reading, and what the rest of the event follows (R25, R44, R45, R55, R66 to R71, R83 to R94,
R101, R104, R115 to R126, R137, R145, R146, R154). -/

namespace Sys2Proof.Machine

/-! The accepted inputs (R116) -/

/-- A cover change, written out (R55, R137). -/
theorem acceptCover_eq (s : State) :
    let isOpen := s.water.cover.pin
    let opened := fun (r : SlotRec) => if isOpen then { r with coverOpened := true } else r
    acceptCover s = { s with
      water := { s.water with cover := { pin := isOpen, filtered := isOpen, timing := false } },
      fan := s.fan.takeCover isOpen,
      filt := { s.filt with slots :=
        { pre := opened s.filt.slots.pre, fine := opened s.filt.slots.fine, carbon := opened s.filt.slots.carbon } } } := by
  intro isOpen opened
  unfold acceptCover setInput setCoverFlags; dsimp only
  cases level : s.water.cover.pin <;> simp [Input.accept, opened, isOpen, level, State.setWater, State.setFan, State.setFilt]

/-- An emptying, written out, by whether the held level is known (R122). -/
theorem countEmptying_eq (s : State) : countEmptying s = { s with water := { s.water with
    emptyings := min 65535 (s.water.emptyings + 1), held := none,
    unknownEmptyings := if s.water.held = none then min 65535 (s.water.unknownEmptyings + 1) else s.water.unknownEmptyings,
    total := match s.water.held with
      | some v => min 4294967295 (s.water.total + (roundDiv (v * (s.setup.tankCapacity : Int)) 1000).toNat)
      | none => s.water.total } } := by
  unfold countEmptying
  cases s.water.held <;> rfl

/-- The tank pulled: a run ends first, and the emptying is counted by the level held before it (R122, R126). -/
theorem tankPulled_eq (s : State) :
    let t := if s.water.pump.state = .running then s.pumpEnded .abortedTankOut else s
    tankPulled s = if s.setup.optDrain = .gravity then t else { t with water := { t.water with
      emptyings := min 65535 (t.water.emptyings + 1), held := none,
      unknownEmptyings := if s.water.held = none then min 65535 (t.water.unknownEmptyings + 1) else t.water.unknownEmptyings,
      total := match s.water.held with
        | some v => min 4294967295 (t.water.total + (roundDiv (v * (s.setup.tankCapacity : Int)) 1000).toNat)
        | none => t.water.total } } := by
  intro t
  have ended : (if s.pumping then endPump .abortedTankOut s else s) = t := by rw [endPump_eq]
  have kept : t.water.held = s.water.held ∧ t.setup = s.setup := by
    rw [← ended]; split
    · exact endPump_held _ s
    · exact ⟨rfl, rfl⟩
  obtain ⟨held, setup⟩ := kept
  unfold tankPulled; dsimp only
  rw [ended]
  clear_value t
  rw [countEmptying_eq, held, setup]

/-- A change of tank present, by the level that the pin has taken. -/
theorem acceptTank_in {s : State} (pin : s.water.tankIn.pin = true) :
    acceptTank s = { s with water := { s.water with tankIn := { pin := true, filtered := true, timing := false } } } := by
  unfold acceptTank setInput Input.accept; dsimp only
  rw [pin]; rfl

theorem acceptTank_out {s : State} (pin : s.water.tankIn.pin = false) :
    acceptTank s =
      tankPulled { s with water := { s.water with tankIn := { pin := false, filtered := false, timing := false } } } := by
  unfold acceptTank setInput Input.accept; dsimp only
  rw [pin]; rfl

/-! The readers of a sample (R25) -/

theorem newValue_moved {old new : Chan} {v : Int} (moved : new.value ≠ old.value) (value : new.value = some v) :
    newValue old new = some v := (if_neg moved).trans value

theorem newValue_none {old new : Chan} (stays : ¬ (new.value ≠ old.value ∧ new.value.isSome = true)) : newValue old new = none := by
  unfold newValue
  split
  · rfl
  · next moved => simpa [moved] using stays

theorem periodicFrost_iff (s : State) :
    s.periodicFrost = true ↔ 2400 ≤ s.dry.runSince ∧ ∃ v, s.qual .roomT = some v ∧ v < 150 := by
  unfold State.periodicFrost
  cases s.qual .roomT <;> simp

theorem pumpDone_iff (s : State) :
    s.pumpDone = true ↔ s.water.pump.state = .running ∧ ∃ x, s.qual .tankLvl = some x ∧ x ≤ 150 := by
  unfold State.pumpDone
  cases s.qual .tankLvl <;> simp

theorem Chan.becomesLost_iff (old new : Chan) :
    old.becomesLost new = true ↔ (new.state = .faulted ∨ new.state = .off) ∧ new.state ≠ old.state := by
  simp [Chan.becomesLost, Chan.lost]

theorem reached_iff (limit : Nat) (t : Option Nat) : reached limit t = true ↔ ∃ n, t = some n ∧ limit ≤ n := by
  cases t <;> simp [reached]

/-- RH is read by the test for DRY_WEAK, where its value has moved (R94). -/
theorem readRh_eq (old new : Chan) (s : State) : readRh old new s =
    if new.value ≠ old.value ∧ s.weakDue = true then { s with dry := { s.dry with dryWeak := true } } else s := by
  unfold readRh testWeak
  by_cases same : new.value = old.value
  · rw [if_pos same, if_neg fun h => h.1 same]
  · rw [if_neg same]
    exact if_congr (iff_and_self.mpr fun _ => same) rfl rfl

/-- ROOM_T is read by the frost trigger (R93). -/
theorem readRoom_eq (old new : Chan) (s : State) : readRoom old new s =
    if (new.value ≠ old.value ∨ new.state ≠ old.state) ∧ s.dry.level = .normal ∧ s.dry.phase = .running ∧ 2400 ≤ s.dry.runSince ∧
      (∃ v, s.qual .roomT = some v ∧ v < 150) then enterDefrost s else s := by
  unfold readRoom
  refine if_congr ?_ rfl rfl
  rw [periodicFrost_iff, and_assoc (a := s.dry.level = .normal)]

/-- COMP_I is read in STARTING (R83). -/
theorem readCurrent_unread {old new : Chan} {s : State}
    (not : ¬ (new.value ≠ old.value ∧ new.value.isSome = true ∧ s.dry.level = .normal ∧ s.dry.phase = .starting)) :
    readCurrent old new s = s := by
  unfold readCurrent newValue
  split
  · next moved =>
    split at moved
    · cases moved
    · next differs => exact if_neg fun starting => not ⟨differs, by rw [moved]; rfl, starting⟩
  · rfl

theorem readCurrent_read {old new : Chan} {s : State} {v : Int} (moved : new.value ≠ old.value) (value : new.value = some v)
    (starting : s.dry.level = .normal ∧ s.dry.phase = .starting) : readCurrent old new s =
      { s with dry := { s.dry with lastStart := some v, currentSeen := s.dry.currentSeen || decide (80 ≤ v) } } := by
  unfold readCurrent
  rw [newValue_moved moved value]
  exact if_pos starting

/-- TANK_LVL is read by the held level, which a lost channel takes away, and, where the value has moved, by the rise reference and the pump
(R94, R122, R126). -/
theorem readTank_lost (old new : Chan) (s : State) :
    (if old.becomesLost new = true then loseHeld s else s) =
      if (new.state = .faulted ∨ new.state = .off) ∧ new.state ≠ old.state
        then { s with water := { s.water with held := none } } else s :=
  if_congr (old.becomesLost_iff new) rfl rfl

theorem readTank_unmoved {old new : Chan} (s : State) (stays : ¬ (new.value ≠ old.value ∧ new.value.isSome = true)) :
    readTank old new s = if (new.state = .faulted ∨ new.state = .off) ∧ new.state ≠ old.state
      then { s with water := { s.water with held := none } } else s := by
  rw [readTank, newValue_none stays, readTank_lost]

theorem readTank_moved {old new : Chan} {v : Int} (s : State) (moved : new.value ≠ old.value) (value : new.value = some v) :
    readTank old new s = waterLevel v (followRise v (if (new.state = .faulted ∨ new.state = .off) ∧ new.state ≠ old.state
      then { s with water := { s.water with held := none } } else s)) := by
  rw [readTank, newValue_moved moved value, readTank_lost]

/-- A level that is handed on (R122, R126). -/
theorem waterLevel_eq (v : Int) (s : State) :
    let u : State := { s with water := { s.water with
      held := if s.setup.optDrain ≠ .gravity ∧ s.water.tankIn.filtered = true then some v else s.water.held,
      pump := { s.water.pump with latestLevel := if s.water.pump.state = .running then some v else s.water.pump.latestLevel } } }
    waterLevel v s = if s.water.pump.state = .running ∧ (∃ x, s.qual .tankLvl = some x ∧ x ≤ 150) then u.pumpEnded .done else u := by
  intro u
  have level : (if s.setup.optDrain ≠ .gravity ∧ s.water.tankIn.filtered = true then s.setWater { s.water with held := some v } else s) =
      { s with water := { s.water with
        held := if s.setup.optDrain ≠ .gravity ∧ s.water.tankIn.filtered = true then some v else s.water.held } } := by
    split <;> rfl
  have reached : ∀ t : State, (if t.pumping then t.setPump { t.water.pump with latestLevel := some v } else t) =
      { t with water := { t.water with pump := { t.water.pump with
        latestLevel := if t.water.pump.state = .running then some v else t.water.pump.latestLevel } } } := fun t => by
    unfold State.pumping; split <;> rfl
  unfold waterLevel; dsimp only
  rw [level, reached, endPump_eq]
  exact if_congr (pumpDone_iff u) rfl rfl

/-- The rise reference follows a level (R94). -/
theorem followRise_eq (v : Int) {s : State} {r : Int} (ref : s.dry.riseRef = some r) : followRise v s =
    if r + 10 ≤ v then { s with dry := { s.dry with weak := 0, riseRef := some v, dryWeak := false } }
    else if v < r then { s with dry := { s.dry with riseRef := some v } } else s := by
  rw [followRise, ref]; rfl

/-! The timers that follow a reading (R87, R93, R101) -/

theorem timerWhile_met {p : Int → Bool} {q : Option Int} {v : Int} (value : q = some v) (met : p v = true) (t : Option Nat) :
    timerWhile (valueMeets p q) t = some (t.getD 0) := by
  rw [value]; exact if_pos met

theorem timerWhile_unmet {p : Int → Bool} {q : Option Int} (unmet : ∀ v, q = some v → p v = false) (t : Option Nat) :
    timerWhile (valueMeets p q) t = none := by
  cases q with
  | none => rfl
  | some v => exact if_neg (Bool.eq_false_iff.mp (unmet v rfl))

theorem timerSync_melt {s : State} (melts : s.inMelt) : timerSync s = { s with dry := { s.dry with
    warm := timerWhile (valueMeets (fun v => decide (40 ≤ v)) (s.qual .coilT)) s.dry.warm } } := if_pos melts

theorem timerSync_running {s : State} (running : s.runningNormal) : timerSync s = { s with dry := { s.dry with
    coilFrost := timerWhile (valueMeets (fun v => decide (v ≤ -10)) (s.qual .coilT)) s.dry.coilFrost,
    trip := timerWhile (valueMeets (fun v => decide (600 < v)) (s.qual .compI)) s.dry.trip } } :=
  (if_neg fun melts => absurd (running.1.symm.trans melts.1) (by decide)).trans (if_pos running)

/-! PM is read in AUTO by the cleaning level (R66 to R71) -/

section
variable {old new : Chan} {c : Cleaning}

theorem Cleaning.react_value (auto : c.mode = .auto) (u : Setup) {v : Int} (state : new.state = .qualified) (value : new.value = some v) :
    c.react u old new = if old.value = some v then c else c.takeValue u v := by
  refine (if_neg (not_not.mpr auto)).trans ?_
  rw [state, value]

theorem Cleaning.react_requalifies (auto : c.mode = .auto) (u : Setup) (state : new.state = .qualifying) (was : old.state = .qualified)
    (basis : c.basis ≠ some .fallback) : c.react u old new = { c with stepDown := none, unqualified := some 0 } := by
  refine (if_neg (not_not.mpr auto)).trans ?_
  rw [state]
  exact if_pos ⟨was, basis⟩

theorem Cleaning.react_lost (auto : c.mode = .auto) (u : Setup) (lost : new.state = .faulted ∨ (new.state = .off ∧ c.pmPwr = true))
    (change : new.state ≠ old.state) (basis : c.basis ≠ some .fallback) : c.react u old new = c.fallBack u := by
  refine (if_neg (not_not.mpr auto)).trans ?_
  rcases lost with state | ⟨state, power⟩ <;> rw [state] at change ⊢
  · exact if_neg fun h => h.elim (fun same => change same.symm) basis
  · exact if_pos ⟨fun same => change same.symm, power, basis⟩

theorem Cleaning.react_stays (u : Setup) (notQualified : new.state ≠ .qualified)
    (stays : new.state = old.state ∨ c.basis = some .fallback ∨ new.state = .warming ∨
      (new.state = .qualifying ∧ old.state ≠ .qualified)) : c.react u old new = c := by
  unfold Cleaning.react
  split
  · rfl
  · cases state : new.state with
    | qualified => exact absurd state notQualified
    | warming => rfl
    | qualifying =>
      refine if_neg fun h => ?_
      rcases stays with same | fallback | warming | ⟨-, other⟩
      · exact notQualified (same.trans h.1)
      · exact h.2 fallback
      · simp [state] at warming
      · exact other h.1
    | faulted =>
      refine if_pos ?_
      simpa [state, eq_comm] using stays
    | off =>
      refine if_neg fun h => ?_
      rcases stays with same | fallback | warming | ⟨qualifying, -⟩
      · exact h.1 (same.symm.trans state)
      · exact h.2.2 fallback
      · simp [state] at warming
      · simp [state] at qualifying

end

/-! What the rest of the event follows -/

/-- DRAIN_BLOCKED (R115, R120). -/
theorem drainSync_elsewhere {s : State} (not : ¬ (s.setup.optDrain = .gravity ∧ s.water.tankIn.filtered = true)) :
    drainSync s = { s with water := { s.water with drainBlocked := false, drainClear := none } } := by
  refine if_pos ?_
  rw [not_and_or, Bool.not_eq_true] at not
  exact not

theorem drainSync_gravity {s : State} (applies : s.setup.optDrain = .gravity ∧ s.water.tankIn.filtered = true) :
    drainSync s = if s.water.float.filtered = true then { s with water := { s.water with drainBlocked := true, drainClear := none } }
      else if s.water.drainBlocked = true ∧ s.water.drainClear = none then { s with water := { s.water with drainClear := some 0 } }
      else s := by
  refine if_neg ?_
  rw [applies.1, applies.2]; decide

/-- The supply state (R154). -/
theorem supplySync_lost {s : State} (lost : (s.chan .supply).state = .faulted ∨ (s.chan .supply).state = .off) :
    supplySync s = { s with supplyLow := true } := by
  refine if_pos ?_
  simpa [Chan.lost] using lost

theorem supplySync_read {s : State} (notLost : ¬ ((s.chan .supply).state = .faulted ∨ (s.chan .supply).state = .off)) :
    supplySync s = match (s.chan .supply).value with
      | none => s
      | some v => { s with supplyLow :=
          if v ≤ s.setup.supplyWarn then true else if (s.setup.supplyWarn : Int) + 100 ≤ v then false else s.supplyLow } := by
  have off : ¬ (s.chan .supply).lost = true := by simpa [Chan.lost] using notLost
  refine (if_neg off).trans ?_
  cases (s.chan .supply).value with
  | none => rfl
  | some v => dsimp only; split_ifs <;> rfl

/-- The result of a check whose minute is out (R145). -/
theorem checkFailure_level {s : State} (atSpeed : s.fan.state = .running ∧ s.fan.atLevel = true) :
    s.checkFailure = .failedNoReading := if_pos atSpeed

theorem checkFailure_noLevel {s : State} (slow : ¬ (s.fan.state = .running ∧ s.fan.atLevel = true)) :
    s.checkFailure = .failedNoLevel := if_neg slow

/-- ROOM_COLD (R104). -/
theorem roomSync_some {s : State} {v : Int} (value : s.qual .roomT = some v) : roomSync s =
    { s with dry := { s.dry with roomCold := if v < 50 then true else if 60 ≤ v then false else s.dry.roomCold } } := by
  rw [roomSync, value]
  dsimp only
  split_ifs <;> rfl

/-- The check in WAITING or SAMPLING, by the fan and FILTER_DP (R145). -/
theorem checkSync_faulted {s : State} (busy : s.filt.check.state = .waiting ∨ s.filt.check.state = .sampling)
    (faulted : (s.chan .filterDp).state = .faulted) : checkSync s = s.checkEnded .failedNoReading :=
  (if_pos ⟨busy, faulted⟩).trans (endCheck_eq (by decide) s)

section
variable {s : State}

theorem checkSync_ready (waiting : s.filt.check.state = .waiting) (ready : s.checkReady) :
    checkSync s = s.withCheck { s.filt.check with state := .sampling, samples := 0, sum := 0 } := by
  obtain ⟨-, -, qualified⟩ := id ready
  exact (if_neg fun h => by simp [qualified] at h).trans (if_pos ⟨waiting, ready⟩)

theorem checkSync_lost (sampling : s.filt.check.state = .sampling) (notReady : ¬ s.checkReady)
    (notFaulted : (s.chan .filterDp).state ≠ .faulted) :
    let back := s.withCheck { s.filt.check with state := .waiting, samples := 0, sum := 0 }
    checkSync s = if reached 60 s.filt.check.timer = true then endCheck s.checkFailure back else back :=
  (if_neg fun h => notFaulted h.2).trans ((if_neg fun h => by simp [sampling] at h).trans (if_pos ⟨sampling, notReady⟩))

theorem checkSync_stays (stays : s.filt.check.state = .idle ∨ s.filt.check.state = .due ∨
    (s.filt.check.state = .waiting ∧ ¬ s.checkReady ∧ (s.chan .filterDp).state ≠ .faulted) ∨
    (s.filt.check.state = .sampling ∧ s.checkReady)) : checkSync s = s := by
  unfold checkSync
  rcases stays with idle | due | ⟨waiting, notReady, notFaulted⟩ | ⟨sampling, ready⟩
  · simp [State.checkBusy, idle]
  · simp [State.checkBusy, due]
  · simp [waiting, notReady, notFaulted]
  · simp [sampling, ready]

/-- A counted sample (R146). -/
theorem countSample_goesOn (v : Int) (more : s.filt.check.samples < 7) :
    countSample v s = s.withCheck { s.filt.check with samples := s.filt.check.samples + 1, sum := s.filt.check.sum + v } :=
  if_pos (by omega)

theorem countSample_last (v : Int) (last : 7 ≤ s.filt.check.samples) :
    let p := s.setup.pressureSlot
    let mean := roundDiv (s.filt.check.sum + v) 8
    let r := { s.slot p with
      latest := some mean, baseline := if (s.slot p).baseline = none then some mean else (s.slot p).baseline }
    countSample v s = ((s.withSlot p (r.evaluate true)).withCheck { s.filt.check with runCount := 0 }).checkEnded .done := by
  intro p mean r
  have baseline : (match (s.slot p).baseline with | some b => some b | none => some mean) =
      if (s.slot p).baseline = none then some mean else (s.slot p).baseline := by
    cases (s.slot p).baseline <;> rfl
  rw [← endCheck_eq (by decide)]
  refine (if_neg (by omega)).trans ?_
  change endCheck .done ((s.withSlot p (SlotRec.evaluate true { s.slot p with latest := some mean, baseline :=
    match (s.slot p).baseline with | some b => some b | none => some mean })).withCheck { s.filt.check with runCount := 0 }) = _
  rw [baseline]

/-- The abort of the FILTER row (R44): with a check under way the row is released with it. -/
theorem abortFilter_busy (blocked : s.filterBlocked) (busy : s.checkBusy) : abortFilter s = s.checkEnded .preempted := by
  refine (if_pos blocked).trans ((if_pos busy).trans ?_)
  rw [← endCheck_eq (by decide)]
  rfl

theorem abortFilter_idle (blocked : s.filterBlocked) (idle : ¬ s.checkBusy) :
    abortFilter s = { s with arb := { s.arb with filter := { s.arb.filter with active := false } } } :=
  (if_pos blocked).trans (if_neg idle)

/-- A dropout (R90, R91). -/
theorem interlock_drops (drops : s.comp.on = true ∧ s.fan.state ≠ .running) : interlock s =
    if s.dry.level = .normal ∧ (s.dry.phase = .starting ∨ s.dry.phase = .running) then
      (s.compStopped .interlock { s.dry with phase := .lockout }).dryReleased
    else { s with comp := { request := false, on := false } } :=
  if_pos drops

/-- AIRFLOW_SHORT (R45, R88). -/
theorem updateShort_changed (changed : s.shortNow ≠ s.arb.airflowShort) :
    let u := publish { s with arb := { s.arb with airflowShort := s.shortNow } }
    updateShort s = if s.shortNow = true ∧ s.dry.level = .normal ∧ (s.dry.phase = .starting ∨ s.dry.phase = .running)
      then u.compStopped .airflowShort { u.dry with phase := .stopping, runOn := some 0 } else u :=
  if_neg changed

end

end Sys2Proof.Machine

namespace Sys2Proof.Machine

/-- Settles O38, reader by reader: each acts by its own equation, the accepted inputs and the sample are events, and the round is the chain of
its parts. -/
theorem inputsAndReadingsReachTheirReaders : Obligations.InputsAndReadingsReachTheirReaders := by
  refine ⟨⟨?cover, ?inputs⟩, ⟨?sample, ?readers, ?level, ?rise, ?cleaning⟩,
    ⟨?drain, ?supply, ?room, ?demand, ?timers, ?check, ?counted⟩, fun s => ⟨?abort, ?dropout, ?short, rfl, rfl⟩, ?latch, ?once, ?edges⟩
  case cover =>
    intro s running timing away isOpen opened
    refine (whenDue_after (test := fun s => s.water.cover.accepts) running ⟨timing, away⟩).trans ?_
    rw [acceptCover_eq]; rfl
  case inputs =>
    intro s running
    refine ⟨fun timing away => whenDue_after (test := fun s => s.water.float.accepts) running ⟨timing, away⟩,
      fun timing pin was => ?_, fun timing pin was => ?_⟩
    all_goals
      refine (whenDue_after (test := fun s => s.water.tankIn.accepts) running ⟨timing, by rw [pin, was]; decide⟩).trans ?_
    · rw [acceptTank_in pin]
    · exact congrArg (fun u => (.next (s.after u) : Result)) ((acceptTank_out pin).trans (tankPulled_eq _))
  case sample =>
    intro raw c s running converting old new accepted
    rw [exec_sampleDelivered raw running converting, event_after]
    unfold deliverSample
    rw [converting]; rfl
  case readers =>
    intro accepted old new s moved
    refine ⟨⟨rfl, rfl⟩, readRh_eq old new s, readRoom_eq old new s, ⟨readCurrent_unread, fun v => readCurrent_read⟩,
      ⟨fun uncounted => if_neg uncounted, fun smp counts last => (if_pos counts).trans (by rw [last])⟩, changeClean_eq _ s,
      readTank_unmoved s, fun v => readTank_moved s⟩
  case level =>
    intro v s u done
    exact ⟨fun h => (waterLevel_eq v s).trans (if_pos h), fun h => (waterLevel_eq v s).trans (if_neg h)⟩
  case rise =>
    intro v s
    refine ⟨fun none => by rw [followRise, none]; rfl, fun r ref => ?_⟩
    rw [followRise_eq v ref]
    exact ⟨fun far => if_pos far, fun up near => (if_neg (by omega)).trans (if_neg (by omega)),
      fun fallen => (if_neg (by omega)).trans (if_pos fallen)⟩
  case cleaning =>
    intro u old new c fallen lost
    exact ⟨fun other => Cleaning.react_notAuto other u old new, fun auto =>
      ⟨fun v => Cleaning.react_value auto u, Cleaning.react_requalifies auto u, Cleaning.react_lost auto u, Cleaning.react_stays u⟩⟩
  case drain =>
    intro s applies u
    refine ⟨drainSync_elsewhere, fun on high => ?_, fun on low blocked clear => ?_, fun on low none => ?_⟩
    all_goals rw [drainSync_gravity on]
    · exact if_pos high
    · rw [if_neg (ne_true_of_eq_false low), if_pos ⟨blocked, clear⟩]
      exact congrArg (u · (some 0)) blocked
    · rw [if_neg (ne_true_of_eq_false low), if_neg fun h => none.elim (fun unblocked => by simp [unblocked] at h) fun timed => timed h.2]
  case supply =>
    intro s c lost
    exact ⟨supplySync_lost, fun notLost none => by rw [supplySync_read notLost, none],
      fun v notLost value => by rw [supplySync_read notLost, value]⟩
  case room =>
    intro s
    exact ⟨fun none => by rw [roomSync, none], fun v => roomSync_some⟩
  case demand =>
    intro s
    refine ⟨fun other => if_neg other, fun target none => (if_pos target).trans ?_, fun v target value => (if_pos target).trans ?_⟩
    · rw [none]; rfl
    · rw [value]; rfl
  case timers =>
    intro s melting running started
    refine ⟨fun melts => ?_, fun runs => ?_, fun notMelt notRun => ?_⟩
    · rw [timerSync_melt melts]
      exact ⟨fun v value high => by rw [timerWhile_met value (decide_eq_true high)],
        fun low => by rw [timerWhile_unmet fun v value => decide_eq_false (not_le.mpr (low v value))]⟩
    · exact ⟨_, _, timerSync_running runs, fun v value frost => timerWhile_met value (decide_eq_true frost) _,
        fun warm => timerWhile_unmet (fun v value => decide_eq_false (not_le.mpr (warm v value))) _,
        fun v value high => timerWhile_met value (decide_eq_true high) _,
        fun low => timerWhile_unmet (fun v value => decide_eq_false (not_lt.mpr (low v value))) _⟩
    · exact (if_neg notMelt).trans (if_neg notRun)
  case check =>
    intro s c atSpeed ready faulted back out
    have readyIff : ready ↔ s.checkReady := and_assoc
    have timed := reached_iff 60 c.timer
    refine ⟨checkSync_faulted, fun waiting isReady => checkSync_ready waiting (readyIff.mp isReady),
      fun sampling notReady notFaulted notOut => ?_, fun sampling notReady notFaulted isOut => ?_, fun stays => checkSync_stays ?_⟩
    · rw [checkSync_lost sampling (mt readyIff.mpr notReady) notFaulted, if_neg (mt timed.mp notOut)]
    · rw [checkSync_lost sampling (mt readyIff.mpr notReady) notFaulted, if_pos (timed.mpr isOut)]
      exact ⟨fun fast => by rw [checkFailure_level fast, endCheck_eq (by decide)],
        fun slow => by rw [checkFailure_noLevel slow, endCheck_eq (by decide)]⟩
    · rwa [← readyIff]
  case counted => exact fun v s => ⟨countSample_goesOn v, countSample_last v⟩
  case abort => exact ⟨fun free => if_neg free, abortFilter_busy, abortFilter_idle⟩
  case dropout =>
    exact ⟨fun stays => if_neg stays, fun drops cycling => (interlock_drops drops).trans (if_pos cycling),
      fun drops other => (interlock_drops drops).trans (if_neg other)⟩
  case short =>
    refine ⟨fun same => if_pos same, fun changed => ⟨fun rises cycling => ?_, fun stays => ?_⟩⟩
    all_goals refine (updateShort_changed changed).trans ?_
    · exact if_pos ⟨rises, cycling⟩
    · exact if_neg fun h => stays.elim (fun falls => Bool.false_ne_true (falls.symm.trans h.1)) fun other => other h.2
  case latch =>
    intro id edge cause l
    exact ⟨latchIn_absent cause, fun a e b whole sameId sameEdge first => whole ▸ latchIn_present cause sameId sameEdge first⟩
  case once => exact fun id s => ⟨oneShot_enabled, oneShot_disabled⟩
  case edges => exact fun s stored rise fall => publish_eq stored rise fall

end Sys2Proof.Machine

/-! The Compressor Drive and the fan: COMP_ON only with the fan RUNNING (R58, R90), and exactly in the phases that request it (R80, R96). -/

namespace Sys2Proof.Machine

/-! What a request can do -/

/-- The forms in which a block takes a request: refused, answered as the state stands, accepted with an event, or accepted with a change of
the Event Latch's list and enables or of the link's counters alone, which is no event. -/
inductive Takes (s : State) : Taken → Prop
  | refused (reason : Reason) (detail : Nat) : Takes s (refuse reason detail s)
  | answered (payload : List Byte) : Takes s (answerWith payload s)
  | accepted (f : State → State) (payload : State → List Byte) : Takes s (accept f payload s)
  | ahead (f : State → State) (payload : State → List Byte) : Takes s (acceptAhead f payload s)
  | latch (e : Events) (payload : List Byte) (stored : e.stored = s.ev.stored) : Takes s (s.setEv e, .ok payload)
  | counters (payload : List Byte) : Takes s (clearCounters s, .ok payload)

section
variable {s : State}

theorem Takes.cond {p : Prop} [Decidable p] {a b : Taken} (yes : Takes s a) (no : Takes s b) : Takes s (if p then a else b) := by
  split
  · exact yes
  · exact no

theorem takeSetupSet_takes (item index : Byte) (value : List Byte) : Takes s (takeSetupSet item index value s) := by
  refine .cond (.refused _ _) (.cond (.refused _ _) (.cond (.refused _ _) ?_))
  split
  · exact .refused _ _
  · exact .accepted _ _

theorem takeSetupGet_takes (item index : Byte) : Takes s (takeSetupGet item index s) := by
  refine .cond (.refused _ _) ?_
  split
  · exact .refused _ _
  · exact .answered _

theorem takeStart_takes : Takes s (takeStart s) := by
  refine .cond (.refused _ _) ?_
  split
  · exact .refused _ _
  · exact .accepted _ _

theorem takeCleanMode_takes (mode level : Byte) : Takes s (takeCleanMode mode level s) := by
  refine .cond (.refused _ _) ?_
  split
  · exact .refused _ _
  · exact .cond (.refused _ _) (.accepted _ _)

theorem takeDryMode_takes (mode setpoint : Byte) : Takes s (takeDryMode mode setpoint s) := by
  refine .cond (.refused _ _) (.cond (.refused _ _) ?_)
  split
  · exact .refused _ _
  · exact .cond (.refused _ _) (.accepted _ _)

theorem takeChannelGet_takes (channel : Byte) : Takes s (takeChannelGet channel s) := by
  unfold takeChannelGet; split
  · exact .refused _ _
  · exact .answered _

theorem takeFaultClear_takes (target channel : Byte) : Takes s (takeFaultClear target channel s) := by
  unfold takeFaultClear; dsimp only; split
  · exact .accepted _ _
  · exact .accepted _ _
  · exact .accepted _ _
  · exact .counters _
  · exact .cond (.refused _ _) (.accepted _ _)
  · exact .refused _ _

theorem takeFilterFit_takes (p : FitParams) : Takes s (takeFilterFit p s) := by
  refine .cond (.refused _ _) (.cond (.refused _ _) ?_)
  split
  · exact .refused _ _
  · refine .cond (.refused _ _) ?_
    split
    · exact .refused _ _
    · split
      · exact .refused _ _
      · exact .cond (.refused _ _) (.cond (.refused _ _) (.accepted _ _))

theorem takeFilterRemove_takes (slot : Byte) : Takes s (takeFilterRemove slot s) := by
  refine .cond (.refused _ _) ?_
  split
  · exact .refused _ _
  · exact .cond (.refused _ _) (.accepted _ _)

theorem takeFilterGet_takes (slot : Byte) : Takes s (takeFilterGet slot s) := by
  unfold takeFilterGet; split
  · exact .refused _ _
  · exact .answered _

/-- The start conditions of a pump run, which PUMP_RUN and SERVICE_RUN PUMP test alike (R128, R186). -/
theorem Takes.pump {a b c d e : Prop} [Decidable a] [Decidable b] [Decidable c] [Decidable d] [Decidable e] {x : Taken} (start : Takes s x) :
    Takes s (if a then refuse .notFitted 0 s else if b then refuse .faultLatched 0 s else if c then refuse .busy 0 s
      else if d then refuse .wrongState 1 s else if e then refuse .wrongState 2 s else x) :=
  .cond (.refused _ _) (.cond (.refused _ _) (.cond (.refused _ _) (.cond (.refused _ _) (.cond (.refused _ _) start))))

theorem takeSubstSet_takes (channel kind : Byte) (params : List Byte) : Takes s (takeSubstSet channel kind params s) := by
  unfold takeSubstSet; split
  · exact .refused _ _
  · refine .cond (.refused _ _) (.cond (.cond (.refused _ _) (.cond (.refused _ _) (.accepted _ _))) (.cond (.refused _ _) ?_))
    dsimp only; split
    · exact .refused _ _
    · exact .accepted _ _

theorem takeServiceRun_takes (kind : Byte) (params : List Byte) : Takes s (takeServiceRun kind params s) := by
  refine .cond (.refused _ _) (.cond (.refused _ _) (.cond (.refused _ _) (.cond (.refused _ _) ?_)))
  split
  · exact .cond (.refused _ _) (.cond (.refused _ _) (.cond (.refused _ _) (.cond (.refused _ _) (.accepted _ _))))
  · exact .cond (.refused _ _) (.cond (.refused _ _) (.cond (.refused _ _) (.accepted _ _)))
  · exact .pump (.accepted _ _)

/-- Every request is taken in one of the forms. -/
theorem take_takes (r : Request) : Takes s (take r s) := by
  cases r with
  | ident => exact .answered _
  | setupSet item index value => exact takeSetupSet_takes item index value
  | setupGet item index => exact takeSetupGet_takes item index
  | start => exact takeStart_takes
  | reset scope => exact .cond (.refused _ _) (.cond (.refused _ _) (.answered _))
  | cleanMode mode level => exact takeCleanMode_takes mode level
  | dryMode mode setpoint => exact takeDryMode_takes mode setpoint
  | fanCeiling level => exact .cond (.refused _ _) (.cond (.refused _ _) (.accepted _ _))
  | fanBoost level duration => exact .cond (.refused _ _) (.cond (.refused _ _) (.cond (.refused _ _) (.accepted _ _)))
  | status page => exact .cond (.refused _ _) (.answered _)
  | channelGet channel => exact takeChannelGet_takes channel
  | eventsRead => exact .latch _ _ rfl
  | watchSet rise fall once attention =>
    exact .cond (.refused _ _) (.cond (.refused _ _) (.cond (.refused _ _) (.cond (.refused _ _) (.latch _ _ rfl))))
  | faultClear target channel => exact takeFaultClear_takes target channel
  | filterFit p => exact takeFilterFit_takes p
  | filterRemove slot => exact takeFilterRemove_takes slot
  | filterGet slot => exact takeFilterGet_takes slot
  | filterCheck => exact .cond (.refused _ _) (.cond (.refused _ _) (.cond (.refused _ _) (.ahead _ _)))
  | pumpRun => exact .cond (.refused _ _) (.pump (.accepted _ _))
  | pumpCancel => exact .cond (.refused _ _) (.cond (.refused _ _) (.accepted _ _))
  | substSet channel kind params => exact takeSubstSet_takes channel kind params
  | substClear channel => exact .cond (.refused _ _) (.accepted _ _)
  | serviceRun kind params => exact takeServiceRun_takes kind params
  | serviceStop => exact .cond (.refused _ _) (.accepted _ _)
  | refusedByLink kind reason => exact .refused _ _

end

/-! COMP_ON needs the fan RUNNING (R58, R90): every event ends so, and what is no event leaves both as they are or COMP_ON off -/

theorem compressorNeedsFan_iff (s : State) : s.CompressorNeedsFan ↔ s.interlocked := Iff.rfl

section
variable {s t : State}

theorem State.interlocked.of_same (h : s.interlocked) (comp : t.comp = s.comp) (fan : t.fan = s.fan) : t.interlocked := by
  unfold State.interlocked; rw [comp, fan]; exact h

theorem State.interlocked.setEv (h : s.interlocked) (e : Events) : (s.setEv e).interlocked := h

theorem State.interlocked.setTime (h : s.interlocked) (time : TimeBase) : (s.setTime time).interlocked := h

theorem State.interlocked.of_off (off : t.comp.on = false) : t.interlocked := fun on => absurd (off.symm.trans on) (by decide)

theorem State.interlocked.cond {p : Prop} [Decidable p] {a b : State} (yes : a.interlocked) (no : b.interlocked) :
    (if p then a else b).interlocked := by
  split
  · exact yes
  · exact no

theorem Takes.interlocked {x : Taken} (taken : Takes s x) (h : s.interlocked) : x.1.interlocked := by
  cases taken with
  | refused | answered => exact h
  | accepted f | ahead f => exact event_interlocked f s
  | latch | counters => exact h.of_same rfl rfl

theorem takeRequest_interlocked (r : Request) (h : s.interlocked) : (takeRequest r s).interlocked :=
  ((take_takes r).interlocked h).of_same rfl rfl

theorem place_interlocked (r : Request) (h : s.interlocked) : (place r s).interlocked :=
  .cond (takeRequest_interlocked r h) (.cond (h.of_same rfl rfl) (h.of_same rfl rfl))

theorem clearSilence_interlocked (h : s.interlocked) : (clearSilence s).interlocked :=
  .cond (event_interlocked _ _) (h.of_same rfl rfl)

theorem arrive_interlocked (r : Request) (h : s.interlocked) : (arrive r s).interlocked :=
  place_interlocked r (clearSilence_interlocked h)

theorem completeFrame_interlocked (kind len : Byte) (payload : List Byte) (check : Byte) (h : s.interlocked) :
    (completeFrame kind len payload check s).interlocked :=
  have hunting : (setReceiver .hunting s).interlocked := h.of_same rfl rfl
  .cond (arrive_interlocked _ hunting) (place_interlocked _ (hunting.of_same rfl rfl))

theorem receiveByte_interlocked (b : Byte) (h : s.interlocked) : (receiveByte b s).interlocked := by
  unfold receiveByte; split
  · exact .cond (h.of_same rfl rfl) h
  · exact h.of_same rfl rfl
  · exact .cond (h.of_same rfl rfl) (h.of_same rfl rfl)
  · exact .cond (h.of_same rfl rfl) (completeFrame_interlocked _ _ _ _ h)

theorem receiveCheck_interlocked (b : Byte) (h : s.interlocked) : (receiveCheck b s).interlocked := by
  unfold receiveCheck; split
  · exact .cond (completeFrame_interlocked _ _ _ _ h) h
  · exact h

theorem receiveOverlong_interlocked (b : Byte) (h : s.interlocked) : (receiveOverlong b s).interlocked := by
  unfold receiveOverlong; split
  · exact .cond (h.of_same rfl rfl) h
  · exact h

theorem expireGap_interlocked (h : s.interlocked) : (expireGap s).interlocked := .cond h (h.of_same rfl rfl)

/-! Resets: COMP_ON is off in reset, and what follows on leaving it ends as an event does -/

theorem assertSource_interlocked (cause : ResetCause) (r : Resets) (h : s.interlocked) : (assertSource cause r s).interlocked :=
  .cond (h.of_same rfl rfl) (.of_off rfl)

theorem leaveReset_interlocked (r : Resets) (s : State) : (leaveReset r s).interlocked := by
  unfold leaveReset
  exact (settle_interlocked _).setEv _

theorem afterRelease_interlocked (r : Resets) (h : s.interlocked) : (afterRelease r s).interlocked :=
  .cond (leaveReset_interlocked r s) (h.of_same rfl rfl)

theorem softResetDue_interlocked (h : s.interlocked) : (softResetDue s).interlocked := .cond (h.of_same rfl rfl) h

theorem softReset_interlocked (s : State) : (softReset s).interlocked := by
  unfold softReset
  exact (softResetDue_interlocked (settle_interlocked _)).setEv _

theorem cutSupply_interlocked (h : s.interlocked) : (cutSupply s).interlocked :=
  .cond (h.of_same rfl rfl) (assertSource_interlocked _ _ h)

theorem takeHeld_interlocked (h : s.interlocked) : (takeHeld s).interlocked := by
  unfold takeHeld; dsimp only; split
  · exact takeRequest_interlocked _ (h.of_same rfl rfl)
  · exact h.of_same rfl rfl

theorem linkSoftReset_interlocked (s : State) : (linkSoftReset s).interlocked := takeHeld_interlocked (softReset_interlocked s)

theorem replySent_interlocked (h : s.interlocked) : (replySent s).interlocked := by
  unfold replySent; split
  · exact h
  · split
    · exact takeHeld_interlocked h
    · exact linkSoftReset_interlocked s
    · exact assertSource_interlocked _ _ h

/-! Commands -/

theorem live_interlocked {f : State → State} (h : s.interlocked) (k : (f s).interlocked) (e : live f s = .next t) : t.interlocked := by
  cases e; exact .cond h k

theorem whenDue_interlocked {p : State → Prop} {dec : DecidablePred p} {f : State → State} (h : s.interlocked)
    (e : whenDue p f s = .next t) : t.interlocked :=
  live_interlocked h (.cond (event_interlocked f s) h) e

theorem whenTicking_interlocked {p : State → Prop} {dec : DecidablePred p} {f : State → State} (h : s.interlocked)
    (e : whenTicking p f s = .next t) : t.interlocked := whenDue_interlocked h e

theorem next_interlocked {u : State} (k : u.interlocked) (e : (Host.Outcome.next u : Result) = .next t) : t.interlocked := by
  cases e; exact k

theorem setInput_interlocked (i : InputPin) (x : Input) (h : s.interlocked) : (setInput i x s).interlocked := by
  cases i <;> exact h.of_same rfl rfl

theorem jobTick_interlocked (s : State) : (jobTick s).interlocked := by
  unfold jobTick closeTick
  exact (inIdOrder_interlocked (event_interlocked _ _)).setTime _

theorem exec_interlocked (i : Instr) (h : s.interlocked) (e : exec i s = .next t) : t.interlocked := by
  cases row : asked i with
  | some r => exact live_interlocked h (arrive_interlocked r h) ((exec_asked row s).symm.trans e)
  | none =>
    cases i with
    | slotStart | sampleDelivered | pmWarmupEnd | defrostStopEnd | defrostEnd | coilFrostTrigger | startAttempt | fanReadyStart
    | startWaitTimeout | retryWaitEnd | currentCheck3 | startConfirmation | minOnTimeStop | overcurrentTrip | runOnEnd
    | idleSampleStart | idleSampleEnd | boostExpiry | fanStall | fanRetry | stallCountExpiry | cleanFallbackTimeout | coverAccepted
    | tankInAccepted | floatAccepted | drainClear | pumpRunStart | pumpBlindDone | pumpTimeout | pumpRestEnd | checkStart
    | checkRetryEnd | checkTimeout | serviceRunExpiry => unfold exec at e; exact whenDue_interlocked h e
    | periodicDefrostTrigger | lockoutEnd | dryWeakRise | cleanStepDown | carriedStepDown | pumpNoFlowTest | linkSilent =>
      unfold exec at e; exact whenTicking_interlocked h e
    | tachEdge => exact live_interlocked h (event_interlocked _ s) e
    | jobTick => exact live_interlocked h (.cond (jobTick_interlocked s) h) e
    | frameComplete c => exact live_interlocked h (receiveCheck_interlocked c h) e
    | overlong c => exact live_interlocked h (receiveOverlong_interlocked c h) e
    | truncated => exact live_interlocked h (expireGap_interlocked h) e
    | byteReceived c => exact live_interlocked h (receiveByte_interlocked c h) e
    | replySent => exact live_interlocked h (replySent_interlocked h) e
    | softReset => exact live_interlocked h (.cond (linkSoftReset_interlocked s) h) e
    | linkFullReset => exact live_interlocked h (.cond (assertSource_interlocked _ _ h) h) e
    | powerOn => exact next_interlocked (.of_off rfl) e
    | resetNAssert => exact next_interlocked (assertSource_interlocked _ _ h) e
    | supplyCut => exact next_interlocked (cutSupply_interlocked h) e
    | supplySenseCrossing b => exact next_interlocked (u := crossSupply b s) (h.of_same rfl rfl) e
    | cutRelease => exact next_interlocked (.cond (afterRelease_interlocked _ h) h) e
    | resetRelease => exact next_interlocked (afterRelease_interlocked _ h) e
    | inputPinChange => exact next_interlocked (setInput_interlocked _ _ h) e
    | _ => cases row

theorem step_interlocked (h : s.interlocked) (e : step s = .next t) : t.interlocked := by
  unfold step at e
  split at e
  · exact next_interlocked h e
  · next c rest _ => exact exec_interlocked c (s := s.setPending rest) (h.of_same rfl rfl) e

end

/-! COMP_ON follows the phase (R80, R96) -/

/-- COMP_ON is on exactly in the phases that request it, and these and STOPPING belong to level 0. -/
def Core.FollowsPhase (c : Core) : Prop :=
  (c.on = true ↔ c.phase.driving) ∧ (c.phase.driving ∨ c.phase = .stopping → c.level = .normal)

theorem compressorFollowsPhase_iff (s : State) : s.CompressorFollowsPhase ↔ s.core.FollowsPhase := by
  unfold State.CompressorFollowsPhase Core.FollowsPhase Phase.driving
  rw [or_assoc]; exact Iff.rfl

theorem not_driving_lockout : ¬ Phase.lockout.driving := by simp [Phase.driving]

theorem not_driving_stopping : ¬ Phase.stopping.driving := by simp [Phase.driving]

theorem not_driving_idle : ¬ Phase.idle.driving := by simp [Phase.driving]

section
variable {c d : Core}

/-- COMP_ON is off where level 0 is left or no phase requests it. -/
theorem Core.FollowsPhase.off (h : c.FollowsPhase) (resting : ¬ (c.level = .normal ∧ c.phase.driving)) : c.on = false := by
  obtain ⟨on, normal⟩ := h
  by_contra is
  have driving : c.phase.driving := on.mp (eq_true_of_ne_false is)
  exact resting ⟨normal (.inl driving), driving⟩

/-- COMP_ON, phase and level are as they were. -/
theorem Core.FollowsPhase.same (h : c.FollowsPhase) (on : d.on = c.on) (phase : d.phase = c.phase) (level : d.level = c.level) :
    d.FollowsPhase := by
  unfold Core.FollowsPhase; rw [on, phase, level]; exact h

/-- COMP_ON is off in a phase that no level rules out. -/
theorem Core.FollowsPhase.of_quiet (off : d.on = false) (quiet : d.phase = .lockout ∨ d.phase = .idle) : d.FollowsPhase := by
  rcases quiet with phase | phase <;> simp [Core.FollowsPhase, Phase.driving, off, phase]

/-- At level 0 every phase is in its place. -/
theorem Core.FollowsPhase.of_normal (on : d.on = true ↔ d.phase.driving) (level : d.level = .normal) : d.FollowsPhase :=
  ⟨on, fun _ => level⟩

/-- Away from level 0 the phase is LOCKOUT or IDLE, and COMP_ON off, whatever level comes next. -/
theorem Core.FollowsPhase.relevel (h : c.FollowsPhase) (away : c.level ≠ .normal) (on : d.on = c.on) (phase : d.phase = c.phase) :
    d.FollowsPhase := by
  have resting : ¬ (c.phase.driving ∨ c.phase = .stopping) := fun p => away (h.2 p)
  unfold Core.FollowsPhase
  rw [on, phase]
  exact ⟨h.1, fun p => absurd p resting⟩

/-- A hold entered from level 0 takes COMP_ON off where the phase requests it, and finds it off elsewhere. -/
theorem Core.FollowsPhase.held_off (h : c.FollowsPhase) : (if c.phase = .starting ∨ c.phase = .running then false else c.on) = false := by
  split
  · rfl
  · next quiet => exact h.off fun driving => quiet driving.2

theorem move_keeps_followsPhase (c d : Core) (m : Core.Move c d) (h : c.FollowsPhase) : d.FollowsPhase := by
  have on := h.1
  cases m
  case stop x was is =>
    rcases is with rfl | rfl
    · exact .of_quiet rfl (.inl rfl)
    · exact .of_normal (by simp [Phase.driving]) was.1
  case drop was => exact h.same (h.off was).symm rfl rfl
  case start was _ => exact .of_normal (by simp [Phase.driving]) was.1
  case startFails | defrost | reset => exact .of_quiet rfl (.inl rfl)
  case confirm was => exact .of_normal (by simp [Phase.driving, on, was.2]) was.1
  case lock was => exact .of_quiet (h.off (by simp [was.2, Phase.driving])) (.inl rfl)
  case unlock was => exact .of_quiet (h.off (by simp [was.2.1, Phase.driving])) (.inr rfl)
  case hold => exact .of_quiet h.held_off (.inl rfl)
  case holdMelt set was is => exact h.relevel (by simp [was.1]) rfl rfl
  case release0 x off was kind is => exact .of_quiet (h.off (by simp [was])) (is.imp_right And.left)
  case release1 off was kind => exact h.relevel (by simp [was]) rfl rfl
  case meltHeld was full => exact h.relevel (by simp [was.1]) rfl rfl
  case defrostEnd off was => exact .of_quiet (h.off (by simp [was.1])) (.inl rfl)
  all_goals exact h.same rfl rfl rfl

end

/-- Settles O7: every event ends with COMP_ON off or the fan RUNNING and no other command moves either without COMP_ON going off, and every
move of the core keeps COMP_ON with the phase. -/
theorem compressorFollowsFanAndPhase : Obligations.CompressorFollowsFanAndPhase :=
  ⟨fun s t h e => (compressorNeedsFan_iff t).mpr (step_interlocked ((compressorNeedsFan_iff s).mp h) e),
   fun s t h e =>
    have core := (compressorFollowsPhase_iff s).mp h
    (compressorFollowsPhase_iff t).mpr
      (step_keeps (P := Core.FollowsPhase) move_keeps_followsPhase (core.same rfl rfl rfl) (core.same rfl rfl rfl) e)⟩

end Sys2Proof.Machine

/-! The demand table and the Fan Drive: the grant and the drive's answer to it (R40 to R43, R50, R55), the requests FAN_CEILING and FAN_BOOST
(R41, R46), and the events of the boost and of the drive (R47, R49 to R55). -/

namespace Sys2Proof.Machine

/-! The grant (R40, R42) -/

section
variable {s : State}

theorem computedGrant_open (isOpen : s.water.cover.filtered = true) : s.computedGrant = 0 := if_pos isOpen

/-- With the cover closed the grant is that of the first row that claims EXACTLY, and else the largest claim under the ceiling (R42). -/
theorem computedGrant_closed (closed : s.water.cover.filtered = false) : s.computedGrant =
    if s.arb.service.exact = true then s.arb.service.level
    else if s.arb.dry.exact = true then s.arb.dry.level
    else if s.arb.filter.exact = true then s.arb.filter.level
    else if s.comp.on = true ∧ min s.largestAtLeast s.ceiling < s.setup.dryFloor then s.setup.dryFloor
    else min s.largestAtLeast s.ceiling := by
  have floor (on : Bool) (a b : Nat) : (if on = true then max a b else b) = if on = true ∧ b < a then a else b := by
    cases on
    · simp
    · simp only [true_and, if_true]; split <;> omega
  unfold State.computedGrant
  rw [if_neg (by simp [State.coverOpen, closed]), floor]

end

theorem Row.atLeastLevel_of (r : Row) (active : r.active = true) (kind : r.kind = .atLeast) : r.atLeastLevel = r.level :=
  if_pos (by simp [active, kind])

theorem Row.atLeastLevel_cases (r : Row) : r.atLeastLevel = 0 ∨ r.active = true ∧ r.kind = .atLeast ∧ r.atLeastLevel = r.level := by
  unfold Row.atLeastLevel; split
  · next claims => simp only [Bool.and_eq_true, decide_eq_true_eq] at claims; exact .inr ⟨claims.1, claims.2, rfl⟩
  · exact .inl rfl

theorem State.row_le_largestAtLeast (s : State) (n : RowName) : (s.arb.row n).atLeastLevel ≤ s.largestAtLeast := by
  unfold State.largestAtLeast
  cases n <;> simp only [Arbiter.row] <;> omega

theorem State.largestAtLeast_is_row (s : State) : ∃ n : RowName, s.largestAtLeast = (s.arb.row n).atLeastLevel := by
  unfold State.largestAtLeast
  -- one row after the other: its level is the largest, or the largest is among the rows behind it
  rcases max_choice s.arb.clean.atLeastLevel _ with e | e <;> rw [e]
  · exact ⟨.clean, rfl⟩
  rcases max_choice s.arb.dry.atLeastLevel _ with e | e <;> rw [e]
  · exact ⟨.dry, rfl⟩
  rcases max_choice s.arb.filter.atLeastLevel _ with e | e <;> rw [e]
  · exact ⟨.filter, rfl⟩
  rcases max_choice s.arb.service.atLeastLevel _ with e | e <;> rw [e]
  · exact ⟨.service, rfl⟩
  · exact ⟨.boost, rfl⟩

/-- The ceiling is a bound by each input that stands, and is one of them (R40). -/
theorem State.ceiling_smallest (s : State) :
    s.ceiling ≤ s.arb.hostCeiling ∧ (s.supplyLow = true → s.ceiling ≤ s.setup.lowCeiling) ∧
    (s.clogged = true → s.ceiling ≤ s.setup.clogCap) ∧
    (s.ceiling = s.arb.hostCeiling ∨ (s.supplyLow = true ∧ s.ceiling = s.setup.lowCeiling) ∨
      (s.clogged = true ∧ s.ceiling = s.setup.clogCap)) := by
  unfold State.ceiling
  cases s.supplyLow <;> cases s.clogged <;> simp <;> omega

/-! The Fan Drive's answer to the grant (R43, R50, R55) -/

/-- The drive takes the target of the new level in every state. -/
def Fan.aimed (target : Nat) (f : Fan) : Fan := { f with target := target }

section
variable {f : Fan} {level target : Nat} {coverOpen : Bool}

/-- From OFF the drive spins up for a level above 0, unless the fault latch is set. -/
theorem Fan.takeGrant_off (state : f.state = .off) : f.takeGrant level target coverOpen =
    if level = 0 ∨ f.fault = true then f.aimed target else (f.aimed target).spinUp := by
  cases f; cases state; rfl

/-- With no edge yet, or between two attempts, the drive goes on towards the new level. -/
theorem Fan.takeGrant_waiting (state : f.state = .spinningUp ∨ f.state = .stalled) : f.takeGrant level target coverOpen =
    if level = 0 then (f.aimed target).stopped .off else f.aimed target := by
  cases f; rcases state with state | state <;> cases state <;> rfl

theorem Fan.takeGrant_running (state : f.state = .running) : f.takeGrant level target coverOpen =
    if level = 0 then (f.aimed target).stopped .off else { f.aimed target with atLevel := false, settleCount := 0 } := by
  cases f; cases state; rfl

theorem Fan.takeGrant_fault (state : f.state = .fault) : f.takeGrant level target coverOpen =
    if coverOpen = true then (f.aimed target).stopped .off else f.aimed target := by
  cases f; cases state; rfl

end

theorem updateGrant_same {s : State} (same : s.computedGrant = s.arb.granted) : updateGrant s = s := if_pos same

theorem updateGrant_changed {s : State} (changed : s.computedGrant ≠ s.arb.granted) :
    updateGrant s = { s with
      arb := { s.arb with granted := s.computedGrant },
      fan := s.fan.takeGrant s.computedGrant (s.levelEntry s.computedGrant).speed s.water.cover.filtered } := if_neg changed

/-- Settles O21: the grant is read case by case, the largest claim is that of one row and the ceiling one of its inputs, and the drive's answer is
its own equation in each state. -/
theorem grantIsComputedAndTakenByTheFan : Obligations.GrantIsComputedAndTakenByTheFan := by
  refine ⟨fun s => ?grant, fun s => ?taken⟩
  case grant =>
    intro want capped
    refine ⟨computedGrant_open, fun closed => ?rows, fun n active kind => ?most, ?reached, s.ceiling_smallest⟩
    case rows =>
      rw [computedGrant_closed closed]
      refine ⟨fun service => if_pos service, fun service dry => ?_, fun service dry filter => ?_, fun service dry filter => ?_⟩
      · rw [service, if_neg Bool.false_ne_true, if_pos dry]
      · rw [service, dry, if_neg Bool.false_ne_true, if_neg Bool.false_ne_true, if_pos filter]
      · rw [service, dry, filter, if_neg Bool.false_ne_true, if_neg Bool.false_ne_true, if_neg Bool.false_ne_true]
    case most => rw [← Row.atLeastLevel_of _ active kind]; exact s.row_le_largestAtLeast n
    case reached =>
      obtain ⟨n, largest⟩ := s.largestAtLeast_is_row
      rcases (s.arb.row n).atLeastLevel_cases with none | ⟨active, kind, level⟩
      · exact .inl (largest.trans none)
      · exact .inr ⟨n, active, kind, largest.trans level⟩
  case taken =>
    intro g aimed idle
    refine ⟨updateGrant_same, fun changed => ⟨_, updateGrant_changed changed, ?_⟩⟩
    exact ⟨fun off stays => (Fan.takeGrant_off off).trans (if_pos stays),
      fun off positive noFault => (Fan.takeGrant_off off).trans (if_neg (not_or.mpr ⟨positive, ne_true_of_eq_false noFault⟩)),
      fun spinning => Fan.takeGrant_waiting (.inl spinning), Fan.takeGrant_running,
      fun stalled => Fan.takeGrant_waiting (.inr stalled), Fan.takeGrant_fault⟩

/-! FAN_CEILING and FAN_BOOST (R41, R46) -/

theorem take_fanCeiling (level : Byte) (h : State) : take (.fanCeiling level) h =
    if h.link.part ≠ .active then refuse .wrongState 0 h
    else if 12 < level.toNat then refuse .badValue 0 h
    else accept (setHostCeiling level.toNat) ceilingBytes h := rfl

theorem take_fanBoost (level : Byte) (duration : Half) (h : State) : take (.fanBoost level duration) h =
    if h.link.part ≠ .active then refuse .wrongState 0 h
    else if 12 < level.toNat then refuse .badValue 0 h
    else if level.toNat = 0 then accept expireBoost boostBytes h
    else if 14400 < duration.toNat then refuse .badValue 1 h
    else accept (applyBoost level.toNat duration.toNat) boostBytes h := by
  show takeFanBoost level duration h = _
  unfold takeFanBoost applyBoost
  by_cases released : level.toNat = 0
  · simp only [released, lt_irrefl, false_and, if_false, if_true]
  · simp only [released, Nat.pos_of_ne_zero released, true_and, if_false]

/-- The host ceiling set (R41). -/
theorem setHostCeiling_eq (level : Nat) (s : State) : setHostCeiling level s = { s with arb := { s.arb with hostCeiling := level } } := rfl

theorem ceilingBytes_eq (s : State) : ceilingBytes s = field 1 s.arb.hostCeiling ++ field 1 s.ceiling ++ field 1 s.arb.granted := rfl

/-- The boost released: the row keeps what it held, and the countdown is gone (R46, R47). -/
theorem expireBoost_eq (s : State) : expireBoost s = { s with arb := { s.arb with
    boost := { s.arb.boost with active := false }, boostRemaining := none } } := rfl

/-- The boost set: the row claims the level from now on, for the duration if there is one (R46). -/
theorem applyBoost_set {level : Nat} (positive : level ≠ 0) (duration : Nat) (s : State) :
    applyBoost level duration s = { s with arb := { s.arb with
      boost := { active := true, kind := .atLeast, level := level, takenAt := s.time.uptime },
      boostRemaining := if duration = 0 then none else some duration } } := if_neg positive

/-- Settles O22: each request is refused by the first test that fails, or answered behind the event of its own change of the table. -/
theorem ceilingAndBoostRequests : Obligations.CeilingAndBoostRequests := by
  refine ⟨fun level s listening => ?ceiling, fun level duration s listening => ?boost⟩
  all_goals
    have hears := listening.hears
    generalize clearSilence s = h at hears ⊢
  case ceiling =>
    intro h t
    rw [← ceilingBytes_eq t]
    have row := take_fanCeiling level h
    split
    · next inactive => exact hears.refused rfl (row.trans (if_pos inactive))
    · next active =>
      rw [if_neg active] at row
      split
      · next beyond => exact hears.refused rfl (row.trans (if_pos beyond))
      · next within =>
        have answered := hears.event (.fanCeiling level) rfl (row.trans (if_neg within)) nofun
        rwa [setHostCeiling_eq] at answered
  case boost =>
    intro h off on
    have row := take_fanBoost level duration h
    split
    · next inactive => exact hears.refused rfl (row.trans (if_pos inactive))
    · next active =>
      rw [if_neg active] at row
      split
      · next beyond => exact hears.refused rfl (row.trans (if_pos beyond))
      · next within =>
        rw [if_neg within] at row
        split
        · next released =>
          have answered := hears.event (.fanBoost level duration) rfl (row.trans (if_pos released)) nofun
          rwa [expireBoost_eq] at answered
        · next positive =>
          rw [if_neg positive] at row
          split
          · next long => exact hears.refused rfl (row.trans (if_pos long))
          · next short =>
            have answered := hears.event (.fanBoost level duration) rfl (row.trans (if_neg short)) nofun
            rwa [applyBoost_set positive] at answered

/-! TACH_EDGE and the measurement (R49 to R53) -/

section
variable {f : Fan} {period : Nat}

theorem Fan.takeEdge_spinningUp (state : f.state = .spinningUp) : f.takeEdge period = { f with
    state := .running, timer := 0, runTime := 0, measured := none, atLevel := false, settleCount := 0, discard := true, edge := true,
    periods := 0, periodSum := 0 } := by
  unfold Fan.takeEdge; rw [state]

theorem Fan.takeEdge_running (state : f.state = .running) : f.takeEdge period =
    if f.discard = true ∨ period = 0 then { f with discard := false, edge := true }
    else { f with edge := true, periods := f.periods + 1, periodSum := f.periodSum + period } := by
  unfold Fan.takeEdge; rw [state]

theorem Fan.takeEdge_elsewhere (notSpinning : f.state ≠ .spinningUp) (notRunning : f.state ≠ .running) : f.takeEdge period = f := by
  unfold Fan.takeEdge; split
  · next state => exact absurd state notSpinning
  · next state => exact absurd state notRunning
  · rfl

end

/-- A tach edge is an event of the drive, whatever it makes of it. -/
theorem exec_tachEdge (period : Nat) {s : State} (running : s.rst.inReset = false) {f : Fan} (taken : s.fan.takeEdge period = f) :
    exec (.tachEdge period) s = .next (s.after { s with fan := f }) := by
  show live (event fun s => s.setFan (s.fan.takeEdge period)) s = _
  unfold live
  rw [if_neg (ne_true_of_eq_false running), event_after, taken]; rfl

/-- The mean speed is the quotient, or the next number from its half on (R51). -/
theorem meanRpm_cases (n sum : Nat) :
    (meanRpm n sum = 30000000000 * n / sum ∧ 2 * (30000000000 * n % sum) ≤ sum) ∨
    (meanRpm n sum = 30000000000 * n / sum + 1 ∧ sum ≤ 2 * (30000000000 * n % sum)) := by
  unfold meanRpm; dsimp only
  split
  · next below => exact .inl ⟨rfl, below.le⟩
  · next notBelow =>
    split
    · next above => exact .inr ⟨rfl, above.le⟩
    · next notAbove =>
      split
      · exact .inr ⟨rfl, not_lt.mp notBelow⟩
      · exact .inl ⟨rfl, not_lt.mp notAbove⟩

/-- A measured speed is a nearest whole rpm (R51). -/
theorem meanRpm_nearest {n sum : Nat} (positive : 0 < sum) :
    2 * (meanRpm n sum * sum) ≤ 2 * (30000000000 * n) + sum ∧ 2 * (30000000000 * n) ≤ 2 * (meanRpm n sum * sum) + sum := by
  have cases := meanRpm_cases n sum
  generalize 30000000000 * n = total at cases ⊢
  have division : total / sum * sum + total % sum = total := Nat.div_add_mod' total sum
  have rest : total % sum < sum := Nat.mod_lt total positive
  rcases cases with ⟨speed, half⟩ | ⟨speed, half⟩
  · rw [speed]; omega
  · rw [speed, Nat.add_mul, Nat.one_mul]; omega

theorem inBand_iff (target speed : Nat) : inBand target speed = true ↔ 92 * target ≤ 100 * speed ∧ 100 * speed ≤ 108 * target := by
  simp [inBand]

/-- Settles O23: an edge is what the drive's state makes of it, a mean speed the quotient or the next number, and the band two bounds. -/
theorem tachEdgesAreCountedAndMeasured : Obligations.TachEdgesAreCountedAndMeasured := by
  refine ⟨fun period s running positive => ⟨fun spinning => ?first, fun runs discards => ?discarded, fun runs counts => ?counted,
    fun notSpinning notRunning => ?ignored⟩, fun n sum _ => meanRpm_nearest, inBand_iff, ?edges⟩
  case first => exact exec_tachEdge period running (Fan.takeEdge_spinningUp spinning)
  case discarded => exact exec_tachEdge period running ((Fan.takeEdge_running runs).trans (if_pos (.inl discards)))
  case counted =>
    exact exec_tachEdge period running ((Fan.takeEdge_running runs).trans (if_neg (by simp [counts, positive.ne'])))
  case ignored => exact exec_tachEdge period running (Fan.takeEdge_elsewhere notSpinning notRunning)
  case edges => decide

/-! BOOST_EXPIRY, FAN_STALL, FAN_RETRY and STALL_COUNT_EXPIRY (R47, R51, R53 to R55) -/

section
variable {f : Fan}

/-- The first two stalls count, and the drive waits for a retry (R53). -/
theorem Fan.stall_stalled (short : f.stalls < 2) : f.stall = { f.stopped .stalled with stalls := f.stalls + 1, timer := 0 } := by
  have count : min 3 (f.stalls + 1) = f.stalls + 1 := by omega
  unfold Fan.stall
  rw [count]; exact if_pos (by omega)

/-- The third stall latches the fault (R53, R55). -/
theorem Fan.stall_fault (third : 2 ≤ f.stalls) : f.stall = { f.stopped .fault with stalls := 3, fault := true, timer := 0 } := by
  have count : min 3 (f.stalls + 1) = 3 := by omega
  unfold Fan.stall
  rw [count]; exact if_neg (by omega)

end

/-- Settles O24: each event is due by its own test, and a stall is one of the first two or the third. -/
theorem fanAndBoostEventsWhenDue : Obligations.FanAndBoostEventsWhenDue := by
  intro s running idle
  refine ⟨fun expired => ?boost, fun stalls => ⟨fun short => ?stalled, fun third => ?fault⟩, fun stalled waited => ?retry,
    fun runs minutes => ?expiry⟩
  case boost => exact whenDue_after (test := fun s => s.arb.boostRemaining = some 0) running expired
  case stalled =>
    refine (whenDue_after (test := fun s => s.fan.stallDue = true) running (s.fan.stallDue_iff.mpr stalls)).trans ?_
    rw [Fan.stall_stalled short]; rfl
  case fault =>
    refine (whenDue_after (test := fun s => s.fan.stallDue = true) running (s.fan.stallDue_iff.mpr stalls)).trans ?_
    rw [Fan.stall_fault third]; rfl
  case retry =>
    exact whenDue_after (test := fun s => s.fan.retryDue = true) running (s.fan.retryDue_iff.mpr ⟨stalled, waited⟩)
  case expiry =>
    exact whenDue_after (test := fun s => s.fan.stallsExpire = true) running (s.fan.stallsExpire_iff.mpr ⟨runs, minutes⟩)

end Sys2Proof.Machine

/-! AUTO's level: the band of a value, what the cleaning record makes of it, and the timers that lower it (R66, R67, R69, R71, R73). -/

namespace Sys2Proof.Machine

/-! The highest band of a list with its threshold met (R66, R67, R71) -/

/-- The place `i` of the list, counted from 0, is the last one whose band has its threshold met. -/
def LastMet (met : Band → Bool) (bands : List Band) (i : Nat) : Prop :=
  ∃ b, bands[i]? = some b ∧ met b = true ∧ ∀ j c, i < j → bands[j]? = some c → met c = false

section
variable {met : Band → Bool} {b : Band} {bands : List Band}

theorem lastMet_cons_zero : LastMet met (b :: bands) 0 ↔ met b = true ∧ ∀ c ∈ bands, met c = false := by
  refine ⟨fun ⟨_, first, isMet, behind⟩ => ?_, fun ⟨isMet, behind⟩ => ⟨b, rfl, isMet, fun j c above at' => ?_⟩⟩
  · obtain rfl := Option.some.inj first
    refine ⟨isMet, fun c mem => ?_⟩
    obtain ⟨j, at'⟩ := List.mem_iff_getElem?.mp mem
    exact behind (j + 1) c j.succ_pos at'
  · obtain ⟨j, rfl⟩ := Nat.exists_eq_succ_of_ne_zero above.ne'
    exact behind c (List.mem_iff_getElem?.mpr ⟨j, at'⟩)

theorem lastMet_cons_succ (i : Nat) : LastMet met (b :: bands) (i + 1) ↔ LastMet met bands i := by
  refine exists_congr fun _ => and_congr_right' (and_congr_right' ⟨fun behind j c above => ?_, fun behind j c above => ?_⟩)
  · exact behind (j + 1) c (Nat.succ_lt_succ above)
  · obtain ⟨j, rfl⟩ := Nat.exists_eq_succ_of_ne_zero (Nat.ne_zero_of_lt above)
    exact behind j c (Nat.lt_of_succ_lt_succ above)

/-- The search answers the number of the last band met, or the best so far where no band is met. -/
theorem highestBand_eq_some_iff {n k : Nat} {best : Option Nat} : highestBand met n bands best = some k ↔
    (∃ i, k = n + i ∧ LastMet met bands i) ∨ ((∀ c ∈ bands, met c = false) ∧ best = some k) := by
  induction bands generalizing n best with
  | nil => simp [highestBand, LastMet]
  | cons b bands ih =>
    have firstOrLater : (∃ i, k = n + i ∧ LastMet met (b :: bands) i) ↔
        (k = n ∧ met b = true ∧ ∀ c ∈ bands, met c = false) ∨ ∃ i, k = n + 1 + i ∧ LastMet met bands i := by
      rw [← Nat.or_exists_add_one, lastMet_cons_zero]
      simp only [lastMet_cons_succ, Nat.add_zero, Nat.add_assoc, Nat.add_comm 1]
    rw [highestBand, ih, firstOrLater, List.forall_mem_cons]
    cases isMet : met b
    · simp
    · simp only [if_true, Option.some.injEq, true_and, reduceCtorEq, false_and, or_false]
      rw [or_comm, and_comm, eq_comm]

end

/-- The highest band by its number, counted from 1, with `limit` the threshold that is read. -/
theorem highestBand_limit_iff (limit : Band → Nat) (bands : List Band) (v : Int) (k : Nat) :
    highestBand (fun b => decide ((limit b : Int) ≤ v)) 1 bands none = some k ↔
    ∃ b, 0 < k ∧ bands[k - 1]? = some b ∧ (limit b : Int) ≤ v ∧ ∀ j c, k ≤ j → bands[j]? = some c → v < limit c := by
  rw [highestBand_eq_some_iff]
  simp only [LastMet, decide_eq_true_eq, decide_eq_false_iff_not, not_le, reduceCtorEq, and_false, or_false]
  constructor
  · rintro ⟨i, rfl, b, at', isMet, behind⟩
    exact ⟨b, by omega, by rwa [Nat.add_sub_cancel_left], isMet, fun j c above => behind j c (by omega)⟩
  · rintro ⟨b, positive, at', isMet, behind⟩
    exact ⟨k - 1, by omega, b, at', isMet, fun j c above => behind j c (by omega)⟩

theorem targetBand_eq_some_iff (bands : List Band) (v : Int) (k : Nat) : targetBand bands v = some k ↔
    ∃ b, 0 < k ∧ bands[k - 1]? = some b ∧ (b.enter : Int) ≤ v ∧ ∀ j c, k ≤ j → bands[j]? = some c → v < c.enter :=
  highestBand_limit_iff Band.enter bands v k

theorem exitBand_eq_some_iff (bands : List Band) (v : Int) (k : Nat) : exitBand bands v = some k ↔
    ∃ b, 0 < k ∧ bands[k - 1]? = some b ∧ (b.leave : Int) ≤ v ∧ ∀ j c, k ≤ j → bands[j]? = some c → v < c.leave :=
  highestBand_limit_iff Band.leave bands v k

theorem bandAt_positive {k : Nat} (positive : 0 < k) (bands : List Band) : bandAt bands k = bands[k - 1]? := by
  obtain ⟨n, rfl⟩ := Nat.exists_eq_succ_of_ne_zero positive.ne'
  rfl

/-! What the cleaning record makes of a value (R66, R67, R71) -/

theorem Cleaning.take_eq (u : Setup) (band : Option Nat) (c : Cleaning) : c.take u band = { c with
    basis := some (if band = none then .floor else .band), band := band, autoLevel := some (u.levelOf band), stepDown := none } := by
  cases band <;> rfl

section
variable {c : Cleaning} (u : Setup) (v : Int)

/-- FLOOR is left for any band whose enter threshold is met. -/
theorem Cleaning.takeValue_floor (basis : c.basis = some .floor) : c.takeValue u v =
    if targetBand u.bands v = none then { c with unqualified := none, stepDown := none }
    else { c with unqualified := none }.take u (targetBand u.bands v) := by
  unfold Cleaning.takeValue Cleaning.follow
  simp only [basis, if_true]
  cases targetBand u.bands v <;> rfl

/-- A band is left for a higher one at once, and by the timer where its exit threshold is no longer met. -/
theorem Cleaning.takeValue_band {k : Nat} {b : Band} (basis : c.basis = some .band) (band : c.band = some k)
    (inForce : bandAt u.bands k = some b) : c.takeValue u v =
    if k < (targetBand u.bands v).getD 0 then { c with unqualified := none }.take u (targetBand u.bands v)
    else if v < b.leave then { c with unqualified := none, stepDown := some (c.stepDown.getD 0) }
    else { c with unqualified := none, stepDown := none } := by
  unfold Cleaning.takeValue Cleaning.follow
  simp only [basis, band, Option.getD_some, inForce]
  rfl

theorem Cleaning.takeValue_carried (basis : c.basis = some .carried) : c.takeValue u v =
    { c with unqualified := none }.resolve u v := by
  unfold Cleaning.takeValue
  simp only [basis]

theorem Cleaning.takeValue_fallback (basis : c.basis = some .fallback) : c.takeValue u v =
    { c with unqualified := none, basis := some .carried }.resolve u v := by
  unfold Cleaning.takeValue
  simp only [basis]

end

/-- Settles O26: the record by its basis, and the band that a threshold gives by the search through the list. -/
theorem autoLevelFollowsTheValue : Obligations.AutoLevelFollowsTheValue := by
  refine ⟨fun u v c => ?record, fun bands v => ⟨targetBand_eq_some_iff bands v, exitBand_eq_some_iff bands v⟩⟩
  intro target c0 up
  have up_eq : c0.take u target = up := Cleaning.take_eq u target c0
  refine ⟨fun floor => ?floor, fun k b band number positive inForce => ?band, fun carried => ?carried, fun fallback => ?fallback⟩
  case floor => rw [Cleaning.takeValue_floor u v floor, ← up_eq]
  case band =>
    rw [Cleaning.takeValue_band u v band number ((bandAt_positive positive u.bands).trans inForce), ← up_eq]
  case carried => rw [Cleaning.takeValue_carried u v carried, ← up_eq]; rfl
  case fallback =>
    have basis : { c0 with basis := some .carried }.take u target = up := (Cleaning.take_eq u target _).trans rfl
    rw [Cleaning.takeValue_fallback u v fallback, ← basis]; rfl

/-! The timers (R67, R69, R71) -/

section
variable {s : State}

theorem State.stepDownDue_iff (s : State) : s.stepDownDue = true ↔ s.clean.mode = .auto ∧ s.clean.basis = some .band ∧
    (∃ n, s.clean.stepDown = some n ∧ s.setup.stepDownHold ≤ n) ∧ ∃ v, s.qual .pm = some v := by
  simp [State.stepDownDue, reached_iff, Option.isSome_iff_exists, and_assoc]

theorem State.carriedDue_iff (s : State) : s.carriedDue = true ↔ s.clean.mode = .auto ∧ s.clean.basis = some .carried ∧
    (∃ n, s.clean.stepDown = some n ∧ s.setup.stepDownHold ≤ n) ∧ ∃ v, s.qual .pm = some v := by
  simp [State.carriedDue, reached_iff, Option.isSome_iff_exists, and_assoc]

theorem State.fallbackDue_iff (s : State) :
    s.fallbackDue = true ↔ s.clean.mode = .auto ∧ ∃ n, s.clean.unqualified = some n ∧ 600 ≤ n := by
  simp [State.fallbackDue, reached_iff]

theorem stepDown_eq {k : Nat} {v : Int} (band : s.clean.band = some k) (value : s.qual .pm = some v) :
    stepDown s = changeClean (fun c => c.take s.setup (exitBand (s.setup.bands.take (k - 1)) v)) s := by
  unfold stepDown
  rw [value]
  refine congrArg (fun c => placeClean s.clean.claimed (s.setClean c)) ?_
  dsimp only
  rw [band, Option.getD_some]

theorem carriedStepDown_eq {v : Int} (value : s.qual .pm = some v) :
    carriedStepDown s = changeClean (fun c => c.take s.setup (exitBand s.setup.bands v)) s := by
  unfold carriedStepDown
  rw [value]

/-- A change within AUTO gives the row of its level, where the level is another (R73). -/
theorem changeClean_auto (auto : s.clean.mode = .auto) {f : Cleaning → Cleaning} {c : Cleaning} {level : Nat} (change : f s.clean = c)
    (mode : c.mode = .auto) (claims : c.autoLevel = some level) : changeClean f s = { s with
      clean := c,
      arb := { s.arb with clean :=
        if s.clean.autoLevel = some level then s.arb.clean
        else if level = 0 then { s.arb.clean with active := false }
        else { active := true, kind := .atLeast, level := level, takenAt := s.time.uptime } } } := by
  have before : s.clean.claimed = s.clean.autoLevel := by unfold Cleaning.claimed; rw [auto]
  have now : c.claimed = some level := by unfold Cleaning.claimed; rw [mode]; exact claims
  rw [changeClean_eq, change, now]
  unfold State.cleanRow
  rw [before]
  simp only [Option.getD_some, eq_comm (a := some level)]

end

/-- Settles O27: each timer is due by its own test, and is a change of the record within AUTO. -/
theorem cleaningTimersWhenDue : Obligations.CleaningTimersWhenDue := by
  intro s running auto row down
  have lowered (band : Option Nat) : s.after (changeClean (fun c => c.take s.setup band) s) = down band :=
    congrArg s.after (changeClean_auto auto (Cleaning.take_eq s.setup band s.clean) auto rfl)
  refine ⟨fun v k n untested basis band timer ended value => ?stepDown, fun v n untested basis timer ended value => ?carried,
    fun n timer ended => ?fallback⟩
  case stepDown =>
    have due := s.stepDownDue_iff.mpr ⟨auto, basis, ⟨n, timer, ended⟩, v, value⟩
    refine (whenTicking_after (test := fun s => s.stepDownDue = true) running untested due).trans ?_
    rw [stepDown_eq band value, lowered]
  case carried =>
    have due := s.carriedDue_iff.mpr ⟨auto, basis, ⟨n, timer, ended⟩, v, value⟩
    refine (whenTicking_after (test := fun s => s.carriedDue = true) running untested due).trans ?_
    rw [carriedStepDown_eq value, lowered]
  case fallback =>
    have due := s.fallbackDue_iff.mpr ⟨auto, n, timer, ended⟩
    refine (whenDue_after (test := fun s => s.fallbackDue = true) running due).trans ?_
    have fallen : cleanFallback s = _ := changeClean_auto (level := s.setup.cleanFallback) auto rfl auto rfl
    rw [fallen]; rfl

end Sys2Proof.Machine

/-! The restart lockout: no move of the core brings a phase beyond LOCKOUT to level 0 before 181 s have passed (R80). -/

namespace Sys2Proof.Machine

/-- A phase that the lockout keeps shut. -/
def Phase.unlocked (p : Phase) : Prop := p = .idle ∨ p = .starting ∨ p = .running

/-- At level 0 a phase beyond LOCKOUT is found only 181 or more after COMP_ON last went off. -/
def Core.LockoutRespected (c : Core) : Prop := c.level = .normal → c.phase.unlocked → c.offTime + 181 ≤ c.uptime

theorem lockoutRespected_iff (s : State) : s.LockoutRespected ↔ s.core.LockoutRespected := Iff.rfl

section
variable {c d : Core}

theorem Core.LockoutRespected.of_away (away : d.level ≠ .normal) : d.LockoutRespected := fun normal => absurd normal away

/-- LOCKOUT and STOPPING are not beyond the lockout. -/
theorem Core.LockoutRespected.of_locked (locked : d.phase = .lockout ∨ d.phase = .stopping) : d.LockoutRespected := by
  intro _ unlocked
  rcases locked with phase | phase <;> simp [Phase.unlocked, phase] at unlocked

/-- From one phase beyond LOCKOUT to another at level 0 nothing has to run out again. -/
theorem Core.LockoutRespected.go (h : c.LockoutRespected) (level : c.level = .normal) (phase : c.phase.unlocked)
    (off : d.offTime = c.offTime) (up : d.uptime = c.uptime) : d.LockoutRespected := by
  intro _ _
  rw [off, up]
  exact h level phase

theorem move_keeps_lockoutRespected (c d : Core) (m : Core.Move c d) (h : c.LockoutRespected) : d.LockoutRespected := by
  cases m
  case stop x was is => exact .of_locked is
  case startFails | lock | defrostEnd | reset => exact .of_locked (.inl rfl)
  case start was _ => exact h.go was.1 (.inl was.2) rfl rfl
  case confirm was => exact h.go was.1 (.inr (.inl was.2)) rfl rfl
  case unlock was => exact fun _ _ => was.2.2
  case hold | holdMelt | release1 | defrost | meltHeld => exact .of_away nofun
  case release0 x off was kind is =>
    rcases is with rfl | ⟨rfl, elapsed⟩
    · exact .of_locked (.inl rfl)
    · exact fun _ _ => elapsed
  all_goals exact h

end

/-- A tick adds 1 to an uptime short of its largest value (R150). -/
theorem tickCounts_uptime {s : State} (short : s.time.uptime < maxCount32) : (tickCounts s).time.uptime = s.time.uptime + 1 :=
  if_neg short.ne

/-- The counts of a tick bring only the end of the lockout nearer. -/
theorem tickCounts_lockoutRespected {s : State} (short : s.time.uptime < maxCount32) (h : s.LockoutRespected) :
    (tickCounts s).LockoutRespected := by
  intro level phase
  have before : s.dry.offTime + 181 ≤ s.time.uptime := h level phase
  rw [tickCounts_uptime short]
  exact Nat.le_succ_of_le before

/-- Settles O8: every move of the core keeps the lockout, and a tick's counts only bring its end nearer. -/
theorem restartLockoutIsKept : Obligations.RestartLockoutIsKept := fun _ t short h e =>
  (lockoutRespected_iff t).mpr
    (step_keeps (P := Core.LockoutRespected) move_keeps_lockoutRespected h (tickCounts_lockoutRespected short h) e)

end Sys2Proof.Machine

/-! The drying cycle's events, each by its own test: the start attempt and its ends, the lockout's end, the idle sample, the judgement of a
start, the ends of a run and the entry to a defrost (R80 to R94, R99). -/

namespace Sys2Proof.Machine

/-! What the events make of the state, written out -/

/-- A failure, with the phase in which it is detected (R84). -/
theorem compFailure_eq (r : FailReason) (s : State) :
    compFailure r s = s.failed r (if s.dry.phase = .running then .running else .starting) := by
  cases r <;> rfl

theorem compFailure_starting (r : FailReason) {s : State} (starting : s.dry.phase = .starting) : compFailure r s = s.failed r .starting := by
  rw [compFailure_eq, if_neg (by simp [starting])]

theorem compFailure_running (r : FailReason) {s : State} (running : s.dry.phase = .running) : compFailure r s = s.failed r .running := by
  rw [compFailure_eq, if_pos running]

/-- A run or a start stops into its run-on (R89). -/
theorem enterStopping_eq (r : StopReason) (s : State) :
    enterStopping r s = s.compStopped r { s.dry with phase := .stopping, runOn := some 0 } := rfl

/-- A run or a start goes back to LOCKOUT (R79, R91). -/
theorem lockoutAfter_eq (r : StopReason) (s : State) :
    toLockout (compOff r s) = (s.compStopped r { s.dry with phase := .lockout }).dryReleased := rfl

/-- The start wait ends with the fan running (R82, R90). -/
theorem enterStarting_running {s : State} (running : s.running) (fitted : s.setup.optCompressor = true) :
    enterStarting s = { s with
      comp := { request := true, on := true },
      dry := { s.dry with
        startWait := none, phase := .starting, onTime := some 0, currentSeen := false, lastStart := none, runStart := s.time.uptime,
        runTank := s.qual .tankLvl } } := if_pos ⟨running, fitted⟩

/-- A defrost is entered (R99). -/
theorem enterDefrost_eq (s : State) :
    let t := (s.compStopped .defrost { s.dry with
      slot1 := some { kind := .run, phase := some .running, offTime := s.time.uptime, runSince := s.dry.runSince,
                      cycleStart := s.dry.runStart, cycleTank := s.dry.runTank, step := none, melt := none, endAfter := false },
      phase := .lockout, level := .defrost, step := some .stop, stepTimer := some 0, melt := none, warm := none,
      defrostCount := min 65534 (s.dry.defrostCount + 1), lastDefrost := some { enteredAt := s.time.uptime, ended := none },
      defrostStart := s.time.uptime, defrostTank := s.qual .tankLvl }).drySet .exactly s.setup.defrostLevel
    enterDefrost s = { t with scan := { t.scan with claims := takeClaimIn .dry .coilT s.scan.claims } } := rfl

/-- Settles O32: each trigger is due by its own test, and both enter the defrost. -/
theorem frostTriggerEntersDefrost : Obligations.FrostTriggerEntersDefrost := by
  intro s awake level phase now t u
  have entered : enterDefrost s = u := enterDefrost_eq s
  rw [← entered]
  refine ⟨fun n timer ended => ?coil, fun v untested since room cold => ?periodic⟩
  case coil =>
    exact whenDue_after (test := fun s => s.coilFrosted) awake ⟨⟨level, phase⟩, (reached_iff 120 _).mpr ⟨n, timer, ended⟩⟩
  case periodic =>
    exact whenTicking_after (test := fun s => s.runningNormal ∧ s.periodicFrost = true) awake untested
      ⟨⟨level, phase⟩, (periodicFrost_iff s).mpr ⟨since, v, room, cold⟩⟩

/-! The quiet events (R80 to R82, R89, R90, R92) -/

/-- Settles O29: each event is due by its own test, and its change is the one written. -/
theorem cyclePhaseEventsWhenDue : Obligations.CyclePhaseEventsWhenDue := by
  intro s awake
  refine ⟨fun untested due => ?lockout, fun due => ?attempt, fun waiting may ready fitted => ?ready, fun due => ?timeout,
    fun due => ?retry, fun due => ?idle, fun due => ?sample, fun due => ?runOn⟩
  case lockout => exact whenTicking_after (test := fun s => s.lockoutDue) awake untested due
  case attempt => exact whenDue_after (test := fun s => s.attemptDue) awake due
  case ready =>
    rw [← enterStarting_running ready.1 fitted]
    exact whenDue_after (test := fun s => s.startWaiting ∧ s.mayStart ∧ s.fanReady) awake ⟨waiting, may, ready⟩
  case timeout => exact whenDue_after (test := fun s => s.waitTimedOut) awake due
  case retry => exact whenDue_after (test := fun s => s.retryOver) awake due
  case idle => exact whenDue_after (test := fun s => s.idleOver) awake due
  case sample => exact whenDue_after (test := fun s => s.sampleOver) awake due
  case runOn => exact whenDue_after (test := fun s => s.runOnOver) awake due

/-! The judgement of a start, and the trip of a run (R83, R84, R87) -/

/-- The start is confirmed (R83). -/
theorem confirmStart_eq (s : State) : confirmStart s = { s with dry := { s.dry with
    phase := .running, failures := 0, starts := min 4294967295 (s.dry.starts + 1) } } := rfl

/-- A start with no current to judge it by has failed (R83). -/
theorem judgeStart_unjudged {s : State} (value : s.qual .compI = none) (last : s.dry.lastStart = none) :
    judgeStart s = compFailure .noCurrent s := by
  unfold judgeStart
  rw [value]
  simp only [Bool.or_false]
  split
  · rfl
  · next v judged => simp [last] at judged

/-- The last start current judges a start: COMP_I's value at that moment, or the one before it (R83). -/
theorem judgeStart_judged {s : State} {v : Int} (judges : s.qual .compI = some v ∨ (s.qual .compI = none ∧ s.dry.lastStart = some v)) :
    let judged : State := { s with dry := { s.dry with
      lastStart := some v, currentSeen := s.dry.currentSeen || (decide (80 ≤ v) && (s.qual .compI).isSome) } }
    judgeStart s = if 600 < v then compFailure .overcurrent judged else confirmStart judged := by
  rcases judges with value | ⟨value, last⟩
  · simp only [judgeStart, value, Option.isSome_some, Bool.and_true]
    rfl
  · simp only [judgeStart, value, last, Option.isSome_none, Bool.and_false]
    rfl

/-- Settles O30: each test is due as its rule has it, and ends in a failure of its phase or in the confirmed start. -/
theorem startsAndRunsAreJudgedByCurrent : Obligations.StartsAndRunsAreJudgedByCurrent := by
  intro s awake level
  refine ⟨fun starting onTime unseen => ?check3, fun starting onTime => ?check5, fun n running timer ended => ?trip⟩
  case check3 =>
    rw [← compFailure_starting .noCurrent starting]
    exact whenDue_after (test := fun s => s.noCurrentAt3) awake ⟨level, starting, onTime, unseen⟩
  case check5 =>
    have judgement : exec .startConfirmation s = .next (s.after (judgeStart s)) :=
      whenDue_after (test := fun s => s.judgeAt5) awake ⟨level, starting, onTime⟩
    refine ⟨fun value last => ?unjudged, fun v judges => ?judged⟩
    case unjudged => rw [judgement, judgeStart_unjudged value last, compFailure_starting .noCurrent starting]
    case judged =>
      intro judged
      rw [judgement, judgeStart_judged judges]
      refine ⟨fun above => ?above, fun within => ?within⟩
      case above =>
        have judgedStarting : judged.dry.phase = .starting := starting
        rw [if_pos above, compFailure_starting .overcurrent judgedStarting]
      case within => rw [if_neg (not_lt.mpr within), confirmStart_eq]
  case trip =>
    rw [← compFailure_running .overcurrent running]
    exact whenDue_after (test := fun s => s.tripped) awake ⟨⟨level, running⟩, (reached_iff 3 _).mpr ⟨n, timer, ended⟩⟩

/-! The loss of demand, and DRY_WEAK (R86, R89, R94) -/

theorem effDemand_eq_false_iff (s : State) : s.effDemand = false ↔ s.dry.demand = false ∧ s.compressorRun = false := Bool.or_eq_false_iff

/-- The test for DRY_WEAK by the mode: 3,600 s of running, and in TARGET an RH still above the setpoint + 5.0 (R94). -/
theorem weakDue_iff (s : State) : s.weakDue = true ↔ s.setup.optDrain ≠ .gravity ∧ 3600 ≤ s.dry.weak ∧
    (s.dry.mode = .continuous ∨ (s.dry.mode = .target ∧ ∃ v, s.qual .rh = some v ∧ (s.dry.setpoint : Int) * 10 + 50 < v)) := by
  unfold State.weakDue
  rw [Bool.and_eq_true, Bool.and_eq_true, decide_eq_true_iff, decide_eq_true_iff, State.weakWatch]
  cases mode : s.dry.mode with
  | off => simp
  | continuous => simp
  | target => cases s.qual .rh <;> simp [and_assoc]

/-- Settles O31: both are due by their own tests. -/
theorem demandLossAndDryWeak : Obligations.DemandLossAndDryWeak := by
  intro s awake
  refine ⟨fun n level running demand service onTime past => ?loss, fun untested level running drain ran above => ?weak⟩
  case loss =>
    have none : s.effDemand = false := (effDemand_eq_false_iff s).mpr ⟨demand, service⟩
    have lost : s.demandLost := ⟨⟨level, running⟩, none, (reached_iff 120 _).mpr ⟨n, onTime, past⟩⟩
    rw [← enterStopping_eq]
    exact whenDue_after (test := fun s => s.demandLost) awake lost
  case weak =>
    have due : s.weakDue = true := (weakDue_iff s).mpr ⟨drain, ran, above⟩
    refine (whenTicking_after (test := fun s => s.runningNormal ∧ s.weakDue = true) awake untested ⟨⟨level, running⟩, due⟩).trans ?_
    unfold testWeak
    rw [if_pos due]; rfl

end Sys2Proof.Machine

/-! DRY_MODE: the refusals, the stored mode and demand, what the cycle makes of them at level 0, and the mark of the waiting context at levels 1
and 2 (R77 to R79, R94, R110). -/

namespace Sys2Proof.Machine

/-! The request (R77) -/

theorem dryModeOf_beyond {n : Nat} (beyond : 2 < n) : dryModeOf n = none := by
  obtain ⟨k, rfl⟩ := Nat.exists_eq_add_of_le' beyond
  rfl

section
variable {mode setpoint : Byte} {h : State}

theorem take_dryMode_inactive (part : h.link.part ≠ .active) : take (.dryMode mode setpoint) h = refuse .wrongState 0 h := if_pos part

theorem take_dryMode_fitted (part : h.link.part = .active) (fitted : h.setup.optCompressor = true) :
    take (.dryMode mode setpoint) h = match dryModeOf mode.toNat with
      | none => refuse .badValue 0 h
      | some m =>
        if m = .target ∧ within 35 70 setpoint.toNat = false then refuse .badValue 1 h
        else accept (applyDryMode m setpoint.toNat) dryBytes h := by
  refine (if_neg (not_not_intro part)).trans ((if_neg ?_).trans rfl)
  rw [fitted]; decide

theorem take_dryMode_unfitted (part : h.link.part = .active) (unfitted : h.setup.optCompressor = false) :
    take (.dryMode mode setpoint) h = refuse .notFitted 0 h := (if_neg (not_not_intro part)).trans (if_pos unfitted)

theorem take_dryMode_unknown (part : h.link.part = .active) (fitted : h.setup.optCompressor = true) (unknown : 2 < mode.toNat) :
    take (.dryMode mode setpoint) h = refuse .badValue 0 h := by
  rw [take_dryMode_fitted part fitted, dryModeOf_beyond unknown]

theorem take_dryMode_setpoint (part : h.link.part = .active) (fitted : h.setup.optCompressor = true)
    (beyond : setpoint.toNat < 35 ∨ 70 < setpoint.toNat) : take (.dryMode 1#8 setpoint) h = refuse .badValue 1 h := by
  rw [take_dryMode_fitted part fitted]
  refine if_pos ⟨rfl, ?_⟩
  simp only [within, Bool.and_eq_false_iff, decide_eq_false_iff_not]
  omega

theorem take_dryMode {m : DryMode} (part : h.link.part = .active) (fitted : h.setup.optCompressor = true)
    (code : dryModeOf mode.toNat = some m) (inside : m = .target → 35 ≤ setpoint.toNat ∧ setpoint.toNat ≤ 70) :
    take (.dryMode mode setpoint) h = accept (applyDryMode m setpoint.toNat) dryBytes h := by
  rw [take_dryMode_fitted part fitted, code]
  refine if_neg fun beyond => ?_
  obtain ⟨low, high⟩ := inside beyond.1
  simp [within, low, high] at beyond

end

/-! The stored mode and the cycle at level 0 (R78, R79) -/

section
variable {s : State} {m : DryMode} {setpoint : Nat}

/-- Mode and demand are stored; OFF ends the dry-weak watch (R77, R78, R94). -/
theorem storeMode_eq (m : DryMode) (setpoint : Nat) (s : State) : storeMode m setpoint s = { s with dry := { s.dry with
    mode := m, setpoint := if m = .target then setpoint else s.dry.setpoint, demand := demandAfter s m setpoint,
    dryWeak := if m = .off then false else s.dry.dryWeak, weak := if m = .off then 0 else s.dry.weak,
    riseRef := if m = .off then none else s.dry.riseRef } } := by
  cases m <;> rfl

/-- A repeated OFF or CONTINUOUS at level 0 changes nothing (R77). -/
theorem applyDryMode_repeated (same : m = s.dry.mode) (notTarget : m ≠ .target) (level : s.dry.level = .normal) :
    applyDryMode m setpoint s = s := by
  refine (if_pos ⟨same, notTarget⟩).trans ?_
  unfold markContext
  rw [level]

/-- Any other request at level 0 is taken by the cycle where it leaves no effective demand (R79). -/
theorem applyDryMode_normal (new : ¬ (m = s.dry.mode ∧ m ≠ .target)) (level : s.dry.level = .normal) :
    let t := storeMode m setpoint s
    applyDryMode m setpoint s =
      if t.effDemand = true then t else if m = .off then modeOffCycle t else if s.dry.demand = true then targetLossCycle t else t := by
  intro t
  have same : t.dry.level = .normal := by rw [show t = _ from storeMode_eq m setpoint s]; exact level
  refine (if_neg new).trans ?_
  change (match t.dry.level with | .normal => _ | .defrost => _ | .hold => _) = _
  rw [same]

/-- A loss of demand to TARGET reaches the start wait and the retry wait of IDLE alone (R79). -/
theorem targetLossCycle_elsewhere (phase : s.dry.phase ≠ .idle) : targetLossCycle s = s := if_neg phase

theorem targetLossCycle_resting (phase : s.dry.phase = .idle) (waits : s.dry.startWait = none) :
    targetLossCycle s = { s with dry := { s.dry with retryWait := none } } :=
  (if_pos phase).trans (if_neg (by simp [waits]))

theorem targetLossCycle_waiting (phase : s.dry.phase = .idle) (waits : s.dry.startWait ≠ none) :
    targetLossCycle s = ({ s with dry := { s.dry with startWait := none, retryWait := none } } : State).dryReleased :=
  (if_pos phase).trans (if_pos (Option.isSome_iff_ne_none.mpr waits))

/-- The loss of all demand to OFF, phase by phase (R79). -/
theorem modeOffCycle_claiming (phase : s.dry.phase = .idle) (claims : s.dry.startWait ≠ none ∨ s.dry.sampleTimer ≠ none) :
    modeOffCycle s =
      ({ s with dry := { s.dry with startWait := none, retryWait := none, sampleTimer := none, idleTimer := none } } : State).dryReleased := by
  unfold modeOffCycle
  rw [phase]
  exact if_pos (by simpa only [Option.isSome_iff_ne_none] using claims)

theorem modeOffCycle_resting (phase : s.dry.phase = .idle) (waits : s.dry.startWait = none) (samples : s.dry.sampleTimer = none) :
    modeOffCycle s = { s with dry := { s.dry with retryWait := none, idleTimer := none } } := by
  unfold modeOffCycle
  rw [phase]
  exact if_neg (by simp [waits, samples])

theorem modeOffCycle_starting (phase : s.dry.phase = .starting) :
    modeOffCycle s = (s.compStopped .modeOff { s.dry with phase := .lockout }).dryReleased := by
  unfold modeOffCycle
  rw [phase, lockoutAfter_eq]

theorem modeOffCycle_running (phase : s.dry.phase = .running) :
    modeOffCycle s = s.compStopped .modeOff { s.dry with phase := .stopping, runOn := some 0 } := by
  unfold modeOffCycle
  rw [phase, enterStopping_eq]

theorem modeOffCycle_off (phase : s.dry.phase = .stopping ∨ s.dry.phase = .lockout) : modeOffCycle s = s := by
  unfold modeOffCycle
  rcases phase with phase | phase <;> rw [phase]

end

/-! Each mode at level 0 -/

section
variable {s : State}

/-- CONTINUOUS is effective demand of its own (R78). -/
theorem applyDryMode_continuous (new : s.dry.mode ≠ .continuous) (level : s.dry.level = .normal) (setpoint : Nat) :
    applyDryMode .continuous setpoint s = { s with dry := { s.dry with mode := .continuous, demand := true } } :=
  (applyDryMode_normal (fun same => new same.1.symm) level).trans (if_pos rfl)

/-- OFF, once its mode is stored, is no demand but a COMPRESSOR service run's (R78, R79, R94). -/
theorem applyDryMode_off (new : s.dry.mode ≠ .off) (level : s.dry.level = .normal) (setpoint : Nat) :
    let v : State := { s with dry := { s.dry with mode := .off, demand := false, dryWeak := false, weak := 0, riseRef := none } }
    applyDryMode .off setpoint s = if s.compressorRun = true then v else modeOffCycle v :=
  applyDryMode_normal (fun same => new same.1.symm) level

/-- With a COMPRESSOR service run, or with COMP_ON off and no phase that claims anything, OFF is stored and no more. -/
theorem applyDryMode_off_kept (new : s.dry.mode ≠ .off) (level : s.dry.level = .normal) (setpoint : Nat)
    (kept : s.compressorRun = true ∨ s.dry.phase = .stopping ∨ s.dry.phase = .lockout) :
    applyDryMode .off setpoint s =
      { s with dry := { s.dry with mode := .off, demand := false, dryWeak := false, weak := 0, riseRef := none } } := by
  refine (applyDryMode_off new level setpoint).trans ?_
  split
  · rfl
  · next lost => exact modeOffCycle_off (kept.resolve_left lost)

/-- TARGET, once its mode, setpoint and demand are stored, is taken by the cycle where it leaves no effective demand and had some (R78, R79). -/
theorem applyDryMode_target (level : s.dry.level = .normal) {setpoint : Nat} {demand : Bool}
    (stored : demandAfter s .target setpoint = demand) :
    let v : State := { s with dry := { s.dry with mode := .target, setpoint := setpoint, demand := demand } }
    applyDryMode .target setpoint s =
      if (demand || s.compressorRun) = true then v else if s.dry.demand = true then targetLossCycle v else v := by
  subst stored
  exact applyDryMode_normal (fun same => same.2 rfl) level

theorem applyDryMode_target_kept (level : s.dry.level = .normal) {setpoint : Nat} {demand : Bool}
    (stored : demandAfter s .target setpoint = demand)
    (kept : demand = true ∨ s.compressorRun = true ∨ s.dry.demand = false ∨ s.dry.phase ≠ .idle) :
    applyDryMode .target setpoint s =
      { s with dry := { s.dry with mode := .target, setpoint := setpoint, demand := demand } } := by
  refine (applyDryMode_target level stored).trans ?_
  split
  · rfl
  · next lost =>
    rw [Bool.or_eq_true, not_or] at lost
    obtain ⟨noDemand, noService⟩ := lost
    split
    · next had =>
      have phase := ((kept.resolve_left noDemand).resolve_left noService).resolve_left (ne_false_of_eq_true had)
      exact targetLossCycle_elsewhere phase
    · rfl

end

/-! Levels 1 and 2 (R110) -/

theorem defrostCondition_eq (s : State) :
    s.defrostCondition = (decide (s.dry.level = .defrost) || decide (s.dry.slot2.map Context.kind = some .defrost)) := by
  unfold State.defrostCondition
  cases s.dry.slot2 <;> simp

/-- The waiting context is the run's below a defrost, in slot 1, and else the hold's, in slot 2. -/
theorem markContext_away {s : State} (away : s.dry.level ≠ .normal) (mark : Bool) :
    let set := fun (c : Option Context) => c.map fun c => { c with endAfter := mark }
    markContext mark s = { s with dry := { s.dry with
      slot1 := if s.defrostCondition = true then set s.dry.slot1 else s.dry.slot1,
      slot2 := if s.defrostCondition = true then s.dry.slot2 else set s.dry.slot2 } } := by
  intro set
  unfold markContext
  cases level : s.dry.level with
  | normal => exact absurd level away
  | defrost =>
    have under : s.defrostCondition = true := by simp [defrostCondition_eq, level]
    simp only [under, if_true]; rfl
  | hold =>
    by_cases under : s.defrostCondition = true
    · simp only [under, if_true]; rfl
    · simp only [under]; rfl

/-- A request stores mode, setpoint and demand; a repeated OFF or CONTINUOUS stores what stands there (R77, R78, R94). -/
theorem storeMode_unlessRepeated (m : DryMode) (setpoint : Nat) (s : State) :
    let becomesOff : Bool := decide (m = .off ∧ s.dry.mode ≠ .off)
    (if m = s.dry.mode ∧ m ≠ .target then s else storeMode m setpoint s) = { s with dry := { s.dry with
      mode := m, setpoint := if m = .target then setpoint else s.dry.setpoint,
      demand := if m = s.dry.mode ∧ m ≠ .target then s.dry.demand else demandAfter s m setpoint,
      dryWeak := if becomesOff then false else s.dry.dryWeak, weak := if becomesOff then 0 else s.dry.weak,
      riseRef := if becomesOff then none else s.dry.riseRef } } := by
  intro becomesOff
  by_cases same : m = s.dry.mode ∧ m ≠ .target
  · obtain ⟨rfl, notTarget⟩ := same
    have stays : becomesOff = false := decide_eq_false fun off => off.2 off.1
    simp [stays, notTarget]
  · have becomes : becomesOff = decide (m = .off) :=
      decide_eq_decide.mpr (and_iff_left_of_imp fun off was => same ⟨off.trans was.symm, by simp [off]⟩)
    simp only [if_neg same, becomes, decide_eq_true_eq]
    exact storeMode_eq m setpoint s

theorem applyDryMode_marks {s : State} (away : s.dry.level ≠ .normal) (m : DryMode) (setpoint : Nat) :
    applyDryMode m setpoint s =
      markContext (decide (m = .off)) (if m = s.dry.mode ∧ m ≠ .target then s else storeMode m setpoint s) := by
  unfold applyDryMode
  split
  · rfl
  · have level : (storeMode m setpoint s).dry.level = s.dry.level := by rw [storeMode_eq]
    dsimp only
    rw [level]
    cases at0 : s.dry.level with
    | normal => exact absurd at0 away
    | defrost => rfl
    | hold => rfl

/-- Away from level 0 the mode, setpoint and demand are stored, and the waiting context is marked or cleared (R110). -/
theorem applyDryMode_away {s : State} (away : s.dry.level ≠ .normal) (m : DryMode) (setpoint : Nat) :
    let becomesOff : Bool := decide (m = .off ∧ s.dry.mode ≠ .off)
    let mark := fun (c : Option Context) => c.map fun c => { c with endAfter := decide (m = .off) }
    applyDryMode m setpoint s = { s with dry := { s.dry with
      mode := m, setpoint := if m = .target then setpoint else s.dry.setpoint,
      demand := if m = s.dry.mode ∧ m ≠ .target then s.dry.demand else demandAfter s m setpoint,
      dryWeak := if becomesOff then false else s.dry.dryWeak, weak := if becomesOff then 0 else s.dry.weak,
      riseRef := if becomesOff then none else s.dry.riseRef,
      slot1 := if s.defrostCondition = true then mark s.dry.slot1 else s.dry.slot1,
      slot2 := if s.defrostCondition = true then s.dry.slot2 else mark s.dry.slot2 } } := by
  intro becomesOff mark
  rw [applyDryMode_marks away, storeMode_unlessRepeated, markContext_away]
  · rfl
  · exact away

/-! The statement's own spelling of the modes -/

/-- The mode of a byte (R171). -/
def dryModeOfByte (mode : Byte) : DryMode := if mode = 0#8 then .off else if mode = 1#8 then .target else .continuous

theorem dryModeOf_byte {mode : Byte} (known : mode.toNat ≤ 2) : dryModeOf mode.toNat = some (dryModeOfByte mode) := by
  have cases : mode = 0#8 ∨ mode = 1#8 ∨ mode = 2#8 := by bv_omega
  rcases cases with rfl | rfl | rfl <;> rfl

theorem dryModeOfByte_off (mode : Byte) : dryModeOfByte mode = .off ↔ mode = 0#8 := by
  unfold dryModeOfByte
  split_ifs <;> simp [*]

theorem dryModeOfByte_target (mode : Byte) : dryModeOfByte mode = .target ↔ mode = 1#8 := by
  unfold dryModeOfByte
  split_ifs <;> simp [*]

/-- Mode demand under TARGET, by RH and by the demand held so far (R78). -/
theorem demandAfter_target (s : State) (setpoint : Nat) : demandAfter s .target setpoint =
    let held := match s.dry.mode with | .off => false | .target => s.dry.demand | .continuous => true
    match s.qual .rh with
    | none => false
    | some v => if (setpoint : Int) * 10 + 30 ≤ v then true else if v ≤ (setpoint : Int) * 10 - 20 then false else held := rfl

/-- Settles O28: the refusals in their order, each mode at level 0 by what the cycle makes of it, and the stored mode with the marked context
elsewhere. -/
theorem dryModeStoresModeAndDemand : Obligations.DryModeStoresModeAndDemand := by
  intro mode setpoint s listening
  have hears := listening.hears
  generalize clearSilence s = h at hears ⊢
  intro h r answered run
  refine ⟨fun part => hears.refused rfl (take_dryMode_inactive part),
    fun part unfitted => hears.refused rfl (take_dryMode_unfitted part unfitted), fun part fitted => ?_⟩
  have accepted {m : DryMode} {u : State} (code : dryModeOf mode.toNat = some m)
      (inside : m = .target → 35 ≤ setpoint.toNat ∧ setpoint.toNat ≤ 70) (effect : applyDryMode m setpoint.toNat h = u) :
      run = .next (answered u) := by
    subst effect
    exact hears.event (.dryMode mode setpoint) rfl (take_dryMode part fitted code inside) nofun
  refine ⟨fun unknown => hears.refused rfl (take_dryMode_unknown part fitted unknown), ?setpoint, ?repeated, ?continuous, ?target, ?off,
    ?away⟩
  case setpoint =>
    rintro rfl beyond
    exact hears.refused rfl (take_dryMode_setpoint part fitted beyond)
  case repeated =>
    rintro (⟨rfl, was⟩ | ⟨rfl, was⟩) level
    · exact accepted (m := .off) rfl nofun (applyDryMode_repeated was.symm nofun level)
    · exact accepted (m := .continuous) rfl nofun (applyDryMode_repeated was.symm nofun level)
  case continuous =>
    rintro rfl new level
    exact accepted rfl nofun (applyDryMode_continuous new level _)
  case target =>
    rintro rfl low high level held demand d
    have stored : demandAfter h .target setpoint.toNat = demand := demandAfter_target h _
    have taken {u : State} := accepted (m := .target) (u := u) rfl fun _ => ⟨low, high⟩
    refine ⟨fun kept => taken (applyDryMode_target_kept level stored kept), fun lost service had idle => ?loss⟩
    have loss := (applyDryMode_target level stored).trans ((if_neg (by simp [lost, service])).trans (if_pos had))
    exact ⟨fun waits => taken (loss.trans (targetLossCycle_resting idle waits)),
      fun waits => taken (loss.trans (targetLossCycle_waiting idle waits))⟩
  case off =>
    rintro rfl new level d v
    have taken {u : State} := accepted (m := .off) (u := u) rfl nofun
    refine ⟨fun kept => taken (applyDryMode_off_kept new level _ kept), fun service => ?noService⟩
    have loss := (applyDryMode_off new level setpoint.toNat).trans (if_neg (ne_true_of_eq_false service))
    exact ⟨fun idle claims => taken (loss.trans (modeOffCycle_claiming idle claims)),
      fun idle waits samples => taken (loss.trans (modeOffCycle_resting idle waits samples)),
      fun starting => taken (loss.trans (modeOffCycle_starting starting)),
      fun running => taken (loss.trans (modeOffCycle_running running))⟩
  case away =>
    intro known inside away becomesOff mark under m
    have code : dryModeOf mode.toNat = some m := dryModeOf_byte known
    have off : m = .off ↔ mode = 0#8 := dryModeOfByte_off mode
    have target : m = .target ↔ mode = 1#8 := dryModeOfByte_target mode
    have slots : h.defrostCondition = under := defrostCondition_eq h
    clear_value m
    refine accepted code (fun t => inside (target.mp t)) ((applyDryMode_away away m setpoint.toNat).trans ?_)
    simp only [off, target, slots, becomesOff, mark]

end Sys2Proof.Machine

/-! The drying level, the hold-cause set, the context slots and the deferred causes (R96, R97, R104): every move of the core keeps them bound
together. -/

namespace Sys2Proof.Machine

/-- Level 2 goes with a non-empty hold-cause set and a filled slot 2, slot 1 is filled for a defrost under way or waiting, and causes are
deferred in step STOP alone. -/
structure Core.SlotsFollowLevel (c : Core) : Prop where
  held : c.level = .hold ↔ c.holdSet ≠ []
  slot2 : c.slot2.isSome = true ↔ c.level = .hold
  slot1 : c.slot1 = true ↔ c.level = .defrost ∨ (c.level = .hold ∧ c.slot2 = some .defrost)
  deferred : ¬ c.inStop → c.deferred = []

theorem slotsFollowLevel_iff (s : State) : s.SlotsFollowLevel ↔ s.core.SlotsFollowLevel := by
  have filled : s.core.slot2.isSome = s.dry.slot2.isSome := Option.isSome_map
  refine ⟨fun ⟨held, slot2, slot1, deferred⟩ => ⟨held, ?_, slot1, deferred⟩, fun h => ⟨h.held, ?_, h.slot1, h.deferred⟩⟩
  · rw [filled]; exact slot2
  · rw [← filled]; exact h.slot2

/-! The three levels, each by what the set and the slots hold there -/

section
variable {c d : Core}

/-- At level 0 nothing is held, saved or deferred. -/
theorem Core.SlotsFollowLevel.of_normal (level : d.level = .normal) (set : d.holdSet = []) (slot2 : d.slot2 = none)
    (slot1 : d.slot1 = false) (deferred : d.deferred = []) : d.SlotsFollowLevel :=
  ⟨by simp [level, set], by simp [level, slot2], by simp [level, slot1], fun _ => deferred⟩

/-- At level 1 the run waits in slot 1, and causes may be deferred in step STOP. -/
theorem Core.SlotsFollowLevel.of_defrost (level : d.level = .defrost) (set : d.holdSet = []) (slot2 : d.slot2 = none)
    (slot1 : d.slot1 = true) (deferred : ¬ d.inStop → d.deferred = []) : d.SlotsFollowLevel :=
  ⟨by simp [level, set], by simp [level, slot2], by simp [level, slot1], deferred⟩

/-- At level 2 slot 2 tells by its kind whether a run waits in slot 1 as well. -/
theorem Core.SlotsFollowLevel.of_hold {kind : ContextKind} (level : d.level = .hold) (set : d.holdSet ≠ []) (slot2 : d.slot2 = some kind)
    (slot1 : d.slot1 = true ↔ kind = .defrost) (deferred : d.deferred = []) : d.SlotsFollowLevel :=
  ⟨by simp [level, set], by simp [level, slot2], by simp [level, slot2, slot1], fun _ => deferred⟩

theorem Core.SlotsFollowLevel.unheld (h : c.SlotsFollowLevel) (level : c.level ≠ .hold) : c.holdSet = [] :=
  not_not.mp fun full => level (h.held.mpr full)

theorem Core.SlotsFollowLevel.unsaved (h : c.SlotsFollowLevel) (level : c.level ≠ .hold) : c.slot2 = none := by
  cases slot : c.slot2 with
  | none => rfl
  | some kind => exact absurd (h.slot2.mp (by rw [slot]; rfl)) level

/-- Slot 1 is filled at level 1, and also at level 2 over a DEFROST context. -/
theorem Core.SlotsFollowLevel.slot1_iff_defrost (h : c.SlotsFollowLevel) (level : c.level ≠ .hold) : c.slot1 = true ↔ c.level = .defrost :=
  h.slot1.trans (by simp [level])

theorem Core.SlotsFollowLevel.slot1_iff_kind (h : c.SlotsFollowLevel) (level : c.level = .hold) : c.slot1 = true ↔ c.slot2 = some .defrost :=
  h.slot1.trans (by simp [level])

theorem Core.not_inStop_of_level (level : c.level ≠ .defrost) : ¬ c.inStop := fun stop => level stop.1

theorem Core.not_inStop_of_step (step : c.step = some .melt) : ¬ c.inStop := fun stop => by simp [stop.2] at step

/-- Level, set, slots, step and deferred causes are as they were. -/
theorem Core.SlotsFollowLevel.same (h : c.SlotsFollowLevel) (level : d.level = c.level) (set : d.holdSet = c.holdSet)
    (slot2 : d.slot2 = c.slot2) (slot1 : d.slot1 = c.slot1) (step : d.step = c.step) (deferred : d.deferred = c.deferred) :
    d.SlotsFollowLevel := by
  have stop : d.inStop ↔ c.inStop := by unfold Core.inStop; rw [level, step]
  refine ⟨?_, ?_, ?_, ?_⟩
  · rw [level, set]; exact h.held
  · rw [level, slot2]; exact h.slot2
  · rw [level, slot1, slot2]; exact h.slot1
  · rw [stop, deferred]; exact h.deferred

/-- The set alone changes, and is empty where it was. -/
theorem Core.SlotsFollowLevel.with_set (h : c.SlotsFollowLevel) {set : List HoldCause} (empty : set = [] ↔ c.holdSet = []) :
    Core.SlotsFollowLevel { c with holdSet := set } :=
  ⟨h.held.trans (not_congr empty.symm), h.slot2, h.slot1, h.deferred⟩

end

theorem insertCause_ne_nil (x : HoldCause) (set : List HoldCause) : insertCause x set ≠ [] := by
  unfold insertCause
  split
  · next there => exact List.ne_nil_of_mem there
  · simp

theorem eraseCause_of_notMem {x : HoldCause} {set : List HoldCause} (absent : x ∉ set) : eraseCause x set = set :=
  List.filter_eq_self.mpr fun _ there => decide_eq_true fun same => absent (same ▸ there)

/-- A clear empties the set only where the cleared cause was its last. -/
theorem eraseCause_eq_nil_iff {x : HoldCause} {set : List HoldCause} (remain : ¬ (x ∈ set ∧ eraseCause x set = [])) :
    eraseCause x set = [] ↔ set = [] := by
  by_cases there : x ∈ set
  · exact ⟨fun empty => absurd ⟨there, empty⟩ remain, fun empty => by simp [empty] at there⟩
  · rw [eraseCause_of_notMem there]

theorem move_keeps_slotsFollowLevel (c d : Core) (m : Core.Move c d) (h : c.SlotsFollowLevel) : d.SlotsFollowLevel := by
  cases m
  case hold set off kind was is =>
    have level : c.level ≠ .hold := fun held => h.held.mp held was.2
    have noRun : c.slot1 = false := Bool.eq_false_iff.mpr fun filled => was.1 ((h.slot1_iff_defrost level).mp filled)
    exact .of_hold rfl is.1 rfl (by simp [noRun, is.2]) (h.deferred (Core.not_inStop_of_level was.1))
  case holdMelt set was is =>
    exact .of_hold rfl is rfl (by simp [h.slot1.mpr (.inl was.1)]) (h.deferred was.2)
  case more x was => exact h.with_set (by simp [insertCause_ne_nil, was])
  case fewer x is =>
    by_cases level : c.level = .hold
    · exact h.with_set (eraseCause_eq_nil_iff fun last => is ⟨last.1, last.2, level⟩)
    · exact h.with_set (by simp [h.unheld level, eraseCause])
  case defer set was => exact ⟨h.held, h.slot2, h.slot1, fun out => absurd was out⟩
  case release0 x off was kind is =>
    have noRun : c.slot1 = false := Bool.eq_false_iff.mpr fun filled => kind ((h.slot1_iff_kind was).mp filled)
    exact .of_normal rfl rfl rfl noRun (h.deferred (Core.not_inStop_of_level (by simp [was])))
  case release1 off was kind =>
    exact .of_defrost rfl rfl rfl ((h.slot1_iff_kind was).mpr kind) fun _ => h.deferred (Core.not_inStop_of_level (by simp [was]))
  case defrost was =>
    have level : c.level ≠ .hold := by simp [was.1]
    exact .of_defrost rfl (h.unheld level) (h.unsaved level) rfl fun out => absurd ⟨rfl, rfl⟩ out
  case melt was empty =>
    exact .of_defrost was.1 rfl (h.unsaved (by simp [was.1])) (h.slot1.mpr (.inl was.1)) fun _ => empty
  case meltHeld was full => exact .of_hold rfl full rfl (by simp [h.slot1.mpr (.inl was.1)]) rfl
  case defrostEnd off was =>
    have level : c.level ≠ .hold := by simp [was.1]
    exact .of_normal rfl (h.unheld level) (h.unsaved level) rfl (h.deferred (Core.not_inStop_of_step was.2))
  case reset => exact .of_normal rfl rfl rfl rfl rfl
  all_goals exact h.same rfl rfl rfl rfl rfl rfl

/-- Settles O9: every move of the core keeps level, set, slots and deferred causes bound, and the queue and a tick's counts do not reach
them. -/
theorem contextSlotsFollowLevel : Obligations.ContextSlotsFollowLevel := fun s t h e =>
  have core := (slotsFollowLevel_iff s).mp h
  have rest := core.same (d := (s.setPending s.pending.tail).core) rfl rfl rfl rfl rfl rfl
  have counts := core.same (d := (tickCounts (s.setPending s.pending.tail)).core) rfl rfl rfl rfl rfl rfl
  (slotsFollowLevel_iff t).mpr (step_keeps (P := Core.SlotsFollowLevel) move_keeps_slotsFollowLevel rest counts e)

end Sys2Proof.Machine

/-! The ends of the defrost's two steps (R100 to R102, R105, R107), and the hold-cause set: the entry to a hold, its end, and the raises and
clears that are neither (R103, R104, R106 to R109). -/

namespace Sys2Proof.Machine

/-! Step STOP and the melt -/

/-- Step STOP lasts 5 s at most, and ends before on a current that has died away (R100). -/
theorem stopOver_iff (s : State) :
    s.stopOver = true ↔ (∃ n, s.dry.stepTimer = some n ∧ 5 ≤ n) ∨ ∃ v, s.qual .compI = some v ∧ v < 30 := by
  unfold State.stopOver
  rw [Bool.or_eq_true, reached_iff]
  refine or_congr_right ?_
  cases s.qual .compI <;> simp

/-- With no cause deferred MELT begins (R100). -/
theorem endStop_melts {s : State} (undeferred : s.dry.deferred = []) :
    endStop s = { s with dry := { s.dry with
      holdSet := [], step := some .melt, stepTimer := none, melt := some 900, warm := none } } :=
  (if_pos undeferred).trans (by simp [State.setDry, undeferred])

/-- With causes deferred the defrost is suspended with its whole melt to come (R105, R107). -/
theorem endStop_holds {s : State} (level : s.dry.level = .defrost) (deferred : s.dry.deferred ≠ []) :
    let t := ({ s with dry := { s.dry with
      holdSet := s.dry.deferred, deferred := [], level := .hold, step := none, stepTimer := none, melt := none, warm := none,
      slot2 := some { kind := .defrost, phase := none, offTime := s.dry.offTime, runSince := s.dry.runSince,
                      cycleStart := s.dry.defrostStart, cycleTank := s.dry.defrostTank, step := some .melt, melt := some 900,
                      endAfter := false } } } : State).dryReleased
    endStop s = { t with scan := { t.scan with claims := releaseClaimIn .dry s.scan.claims } } :=
  (if_neg (show s.dry.deferred ≠ [] from deferred)).trans (if_pos (show s.dry.level = .defrost from level))

/-- Settles O33: the step is over by its timer or by the current, and the deferred set alone tells what comes next. -/
theorem stopStepEndsInMeltOrHold : Obligations.StopStepEndsInMeltOrHold := by
  intro s awake level step ended
  have ends : exec .defrostStopEnd s = .next (s.after (endStop s)) :=
    whenDue_after (test := fun s => s.inStop ∧ s.stopOver = true) awake ⟨⟨level, step⟩, (stopOver_iff s).mpr ended⟩
  refine ⟨fun undeferred => ?melts, fun deferred => ?holds⟩
  case melts => rw [ends, endStop_melts undeferred]
  case holds => rw [ends, endStop_holds level deferred]

/-- The record of the defrost that ends, slot 1 restored, and DEFROST's fall ahead of DEFROST_END (R102). -/
theorem endDefrost_eq (reason : DefrostReason) {s : State} {c : Context} {l : LastDefrost} (slot1 : s.dry.slot1 = some c)
    (last : s.dry.lastDefrost = some l) :
    let t := ({ s with dry := { s.dry with
      lastDefrost := some { l with ended := some (DefrostEnd.mk s.time.uptime reason (900 - s.dry.melt.getD 0)) },
      slot1 := none, level := .normal, phase := .lockout, offTime := c.offTime, runSince := 0, step := none, stepTimer := none, melt := none,
      warm := none,
      lastStop := if c.endAfter then s.dry.lastStop.map fun l => { l with reason := .modeOff } else s.dry.lastStop } } : State).dryReleased
    endDefrost reason s = oneShot 23 (publish { t with scan := { t.scan with claims := releaseClaimIn .dry s.scan.claims } }) := by
  have off : s.dry.slot1Off = c.offTime := by unfold Drying.slot1Off; rw [slot1]
  have marked : s.dry.slot1Marked = c.endAfter := by unfold Drying.slot1Marked; rw [slot1]
  unfold endDefrost lastDefrostEnded
  rw [off, marked, last]
  rfl

/-- Settles O34: a warm coil and a melt that has run out both end the defrost, and the warm coil gives the reason where both do. -/
theorem meltEndRestoresTheRun : Obligations.MeltEndRestoresTheRun := by
  intro s c l awake level step slot1 last warmed ended t
  have warm : reached 30 s.dry.warm = warmed := by unfold reached warmed; cases s.dry.warm <;> rfl
  have due : s.meltOver = true := by
    unfold State.meltOver
    rw [warm, Bool.or_eq_true, decide_eq_true_iff]
    exact ended
  have reason : s.meltReason = if warmed then .normal else .timeout := by unfold State.meltReason; rw [warm]
  have ends : exec .defrostEnd s = .next (s.after (endDefrost s.meltReason s)) :=
    whenDue_after (test := fun s => s.inMelt ∧ s.meltOver = true) (f := fun s => endDefrost s.meltReason s) awake ⟨⟨level, step⟩, due⟩
  rw [ends, reason, endDefrost_eq _ slot1 last]

/-! The hold-cause set: raises -/

section
variable {cause : HoldCause} {s : State}

theorem not_inStop_of_level (level : s.dry.level ≠ .defrost) : ¬ s.inStop := fun stop => level stop.1

/-- The first cause enters a hold (R106, R107). -/
theorem raiseCause_first (running : ¬ s.inStop) (empty : s.dry.holdSet = []) :
    raiseCause cause s = enterHold (s.setDry { s.dry with holdSet := [cause] }) := by
  unfold raiseCause
  rw [if_neg running, if_pos empty]

/-- A further cause joins the set (R108). -/
theorem raiseCause_further (running : ¬ s.inStop) (held : s.dry.holdSet ≠ []) :
    raiseCause cause s = { s with dry := { s.dry with holdSet := insertCause cause s.dry.holdSet } } := by
  unfold raiseCause
  rw [if_neg running, if_neg held]
  rfl

/-- In step STOP a cause is deferred (R104). -/
theorem raiseCause_deferred (stop : s.inStop) :
    raiseCause cause s = { s with dry := { s.dry with deferred := insertCause cause s.dry.deferred } } := if_pos stop

/-- What a hold entered from level 0 leaves of a state in which COMP_ON is off already: the given context saved, every wait and the run-on
ended, and the DRY row released (R106). -/
def State.heldWith (s : State) (context : Context) : State :=
  ({ s with dry := { s.dry with
    slot2 := some context, level := .hold, phase := .lockout, startWait := none, retryWait := none, idleTimer := none, sampleTimer := none,
    runOn := none } } : State).dryReleased

/-- Where COMP_ON is on it goes off first, so that the context has the new off time. -/
theorem holdFromNormal_driving (driving : s.dry.phase = .starting ∨ s.dry.phase = .running) :
    holdFromNormal s = (s.compStopped .hold s.dry).heldWith (contextFor s.dry.phase (s.compStopped .hold s.dry).dry) := by
  unfold holdFromNormal
  dsimp only
  rw [if_pos driving]
  rfl

theorem holdFromNormal_resting (resting : ¬ (s.dry.phase = .starting ∨ s.dry.phase = .running)) :
    holdFromNormal s = s.heldWith (contextFor s.dry.phase s.dry) := by
  unfold holdFromNormal
  dsimp only
  rw [if_neg resting]
  rfl

/-- A context does not tell the causes of its hold (R97). -/
theorem contextFor_holdSet (phase : Phase) (d : Drying) (set : List HoldCause) :
    contextFor phase { d with holdSet := set } = contextFor phase d := by
  cases phase <;> rfl

/-- The first cause at level 0 (R106). -/
theorem raiseCause_normal (level : s.dry.level = .normal) (empty : s.dry.holdSet = []) :
    let v := if s.dry.phase = .starting ∨ s.dry.phase = .running then s.compStopped .hold s.dry else s
    raiseCause cause s = ({ v with dry := { v.dry with
      holdSet := [cause], slot2 := some (contextFor s.dry.phase v.dry), level := .hold, phase := .lockout, startWait := none,
      retryWait := none, idleTimer := none, sampleTimer := none, runOn := none } } : State).dryReleased := by
  rw [raiseCause_first (not_inStop_of_level (by simp [level])) empty]
  refine (if_neg (show s.dry.level ≠ .defrost by simp [level])).trans ?_
  by_cases driving : s.dry.phase = .starting ∨ s.dry.phase = .running
  · rw [if_pos driving, ← contextFor_holdSet _ _ [cause]]
    exact holdFromNormal_driving (s := s.setDry { s.dry with holdSet := [cause] }) driving
  · rw [if_neg driving, ← contextFor_holdSet _ _ [cause]]
    exact holdFromNormal_resting (s := s.setDry { s.dry with holdSet := [cause] }) driving

/-- A hold entered from MELT saves the melt remaining (R107). -/
theorem raiseCause_melt {m : Nat} (level : s.dry.level = .defrost) (step : s.dry.step = some .melt) (melt : s.dry.melt = some m)
    (empty : s.dry.holdSet = []) :
    let t := ({ s with dry := { s.dry with
      holdSet := [cause], level := .hold, step := none, melt := none, warm := none,
      slot2 := some ⟨.defrost, none, s.dry.offTime, s.dry.runSince, s.dry.defrostStart, s.dry.defrostTank, some .melt, some m, false⟩ } } :
        State).dryReleased
    raiseCause cause s = { t with scan := { t.scan with claims := releaseClaimIn .dry s.scan.claims } } := by
  have remaining : s.dry.melt.getD 900 = m := by simp [melt]
  rw [raiseCause_first (by simp [step]) empty, ← remaining]
  exact if_pos level

end

/-- Settles O35: at level 0 the context is that of the phase, read behind the fall of COMP_ON; from MELT it is the defrost's. -/
theorem holdEntrySavesTheContext : Obligations.HoldEntrySavesTheContext := by
  intro cause s empty
  refine ⟨fun level => ?normal, fun m level step melt => raiseCause_melt level step melt empty⟩
  intro on v context
  have saved : context = contextFor s.dry.phase v.dry := by
    have since : v.dry.runSince = s.dry.runSince := by unfold v; split <;> rfl
    have start : v.dry.runStart = s.dry.runStart := by unfold v; split <;> rfl
    have tank : v.dry.runTank = s.dry.runTank := by unfold v; split <;> rfl
    unfold context
    rw [← since, ← start, ← tank]
    clear_value v
    cases s.dry.phase <;> rfl
  rw [saved]
  exact raiseCause_normal level empty

/-! The hold-cause set: clears -/

section
variable {cause : HoldCause} {s : State} {c : Context}

/-- A clear that is not the end of a hold takes the cause out of the set alone (R108). -/
theorem clearCause_remain (running : ¬ s.inStop) (remain : ¬ (cause ∈ s.dry.holdSet ∧ eraseCause cause s.dry.holdSet = [])) :
    clearCause cause s = { s with dry := { s.dry with holdSet := eraseCause cause s.dry.holdSet } } :=
  (if_neg running).trans (if_neg fun last => remain ⟨last.1, last.2.1⟩)

/-- In step STOP a cause is no longer deferred (R104). -/
theorem clearCause_deferred (stop : s.inStop) :
    clearCause cause s = { s with dry := { s.dry with deferred := eraseCause cause s.dry.deferred } } := if_pos stop

/-- The clear of the only cause ends the hold (R109). -/
theorem clearCause_last (level : s.dry.level = .hold) (only : s.dry.holdSet = [cause]) :
    clearCause cause s = endHold (s.setDry { s.dry with holdSet := [] }) := by
  have emptied : eraseCause cause s.dry.holdSet = [] := by simp [only, eraseCause]
  unfold clearCause
  rw [if_neg (not_inStop_of_level (by simp [level]))]
  dsimp only
  rw [if_pos ⟨by simp [only], emptied, level⟩, emptied]

/-- An IDLE context is restored into IDLE, or into LOCKOUT before the lockout has run out (R109). -/
theorem endHold_idle (slot2 : s.dry.slot2 = some c) (kind : c.kind = .idle) :
    endHold s = { s with dry := { s.dry with
      slot2 := none, level := .normal, offTime := c.offTime, runSince := c.runSince,
      phase := if s.dry.disabled = false ∧ c.offTime + 181 ≤ s.time.uptime then .idle else .lockout } } := by
  unfold endHold
  rw [slot2]
  dsimp only
  rw [kind]
  rfl

/-- A RUN context is restored into LOCKOUT (R109). -/
theorem endHold_run (slot2 : s.dry.slot2 = some c) (kind : c.kind = .run) :
    endHold s = { s with dry := { s.dry with
      slot2 := none, level := .normal, phase := .lockout, offTime := c.offTime, runSince := c.runSince,
      lastStop := if c.endAfter then s.dry.lastStop.map fun l => { l with reason := .modeOff } else s.dry.lastStop } } := by
  unfold endHold
  rw [slot2]
  dsimp only
  rw [kind]
  rfl

/-- A DEFROST context is restored into step MELT with its melt remaining (R109). -/
theorem endHold_defrost {m : Nat} (slot2 : s.dry.slot2 = some c) (kind : c.kind = .defrost) (melt : c.melt = some m) :
    let t := ({ s with dry := { s.dry with
      slot2 := none, level := .defrost, step := some .melt, stepTimer := none, melt := some m, warm := none, offTime := c.offTime,
      runSince := c.runSince } } : State).drySet .exactly s.setup.defrostLevel
    endHold s = { t with scan := { t.scan with claims := takeClaimIn .dry .coilT s.scan.claims } } := by
  have remaining : c.melt.getD 900 = m := by simp [melt]
  unfold endHold
  rw [slot2, ← remaining]
  dsimp only
  rw [kind]
  rfl

end

/-- Settles O36: the last clear by the kind of slot 2, the other raises and clears by their effect on one set. -/
theorem holdEndRestoresTheContext : Obligations.HoldEndRestoresTheContext := by
  intro cause s c
  refine ⟨fun level only slot2 => ?last, fun level held absent => ?absent, fun level there other => ?there, fun level step => ?stop⟩
  case last =>
    rw [clearCause_last level only]
    exact ⟨endHold_idle slot2, endHold_run slot2, fun m => endHold_defrost slot2⟩
  case absent =>
    have running : ¬ s.inStop := not_inStop_of_level (by simp [level])
    rw [raiseCause_further running held, clearCause_remain running fun last => absent last.1, eraseCause_of_notMem absent, insertCause,
      if_neg absent]
    exact ⟨rfl, rfl⟩
  case there =>
    obtain ⟨x, remains, differs⟩ := other
    have running : ¬ s.inStop := not_inStop_of_level (by simp [level])
    have left : x ∈ eraseCause cause s.dry.holdSet := List.mem_filter.mpr ⟨remains, decide_eq_true differs⟩
    rw [raiseCause_further running (List.ne_nil_of_mem there), clearCause_remain running fun last => by simp [last.2] at left, insertCause,
      if_pos there]
    exact ⟨rfl, rfl⟩
  case stop => exact ⟨raiseCause_deferred ⟨level, step⟩, clearCause_deferred ⟨level, step⟩⟩

end Sys2Proof.Machine

/-! The part leaves reset: its full-reset values, in a hold for the causes that stand at the pins, follow from one another by no rule but the
raises themselves (R103, R106, R112, R116, R153, R164). -/

namespace Sys2Proof.Machine

/-! The part after reset -/

/-- The drying record at its full-reset values, on hold for the given causes: in a hold an IDLE context waits (R106, R112). -/
def Drying.afterReset (set : List HoldCause) : Drying :=
  { Drying.atReset with
    level := if set = [] then .normal else .hold, holdSet := set,
    slot2 := if set = [] then none else some (idleContext Drying.atReset) }

/-- The part with the resets given, on hold for the given causes, and else at its full-reset values for the pins of `s`. -/
def State.afterReset (s : State) (rst : Resets) (set : List HoldCause) (ev : Events) : State :=
  ((resetBlocks rst s).setDry (Drying.afterReset set)).setEv ev

section
variable {s : State} {rst : Resets} {set : List HoldCause} {ev : Events}

/-- Which causes stand is told by the pins alone. -/
theorem stands_afterReset (c : HoldCause) : (s.afterReset rst set ev).stands c = (resetBlocks rst s).stands c := by
  cases c <;> rfl

theorem level_afterReset : (s.afterReset rst set ev).dry.level ≠ .defrost := by
  show (if set = [] then DryLevel.normal else .hold) ≠ .defrost
  split <;> simp

theorem publish_afterReset : ∃ e, publish (s.afterReset rst set ev) = s.afterReset rst set e := ⟨_, rfl⟩

/-! Nothing but a hold cause has an effect -/

/-- With no row active and the compressor off the grant is 0 (R42). -/
theorem computedGrant_afterReset : (s.afterReset rst set ev).computedGrant = 0 := by
  unfold State.computedGrant
  split
  · rfl
  · exact Nat.zero_min (s.afterReset rst set ev).ceiling

theorem not_airPending_afterReset : ¬ (s.afterReset rst set ev).airPending := by
  rintro (filter | grant | comp | short)
  · exact Bool.false_ne_true filter.1
  · exact grant computedGrant_afterReset
  · exact Bool.false_ne_true comp.1
  · exact short rfl

theorem airflow_afterReset : airflow (s.afterReset rst set ev) = s.afterReset rst set ev := by
  have abort : abortFilter (s.afterReset rst set ev) = s.afterReset rst set ev := if_neg fun h => Bool.false_ne_true h.1
  have grant : updateGrant (s.afterReset rst set ev) = s.afterReset rst set ev := if_pos computedGrant_afterReset
  have lock : interlock (s.afterReset rst set ev) = s.afterReset rst set ev := if_neg fun h => Bool.false_ne_true h.1
  have same : (s.afterReset rst set ev).shortNow = (s.afterReset rst set ev).arb.airflowShort := rfl
  have short : updateShort (s.afterReset rst set ev) = s.afterReset rst set ev := by
    unfold updateShort
    dsimp only
    rw [if_pos same]
  rw [airflow, abort, grant, lock, short]

/-- The tank state of R130 is the one that R118 gives in BUCKET mode with TANK_LVL not QUALIFIED. -/
theorem tankSync_atReset {u : State} {tankIn float cover : Bool} (water : u.water = Water.atReset tankIn float cover)
    (drain : u.setup.optDrain = .bucket) (level : u.qual .tankLvl = none) : tankSync u = u := by
  have tank : (if u.tankHeld then .full else u.tankFresh) = u.water.tank := by
    unfold State.tankHeld State.tankFresh State.tankTable
    rw [drain, level, water]
    cases tankIn <;> cases float <;> rfl
  unfold tankSync
  rw [tank]; rfl

/-- The readers of the supply, the tank, the drain and the room find what the full reset has set (R104, R118, R120, R154). -/
theorem inputs_afterReset :
    roomSync (drainSync (tankSync (supplySync (s.afterReset rst set ev)))) = s.afterReset rst set ev := by
  have supply : supplySync (s.afterReset rst set ev) = s.afterReset rst set ev := rfl
  have tank : tankSync (s.afterReset rst set ev) = s.afterReset rst set ev := tankSync_atReset (u := s.afterReset rst set ev) rfl rfl rfl
  have drain : drainSync (s.afterReset rst set ev) = s.afterReset rst set ev := rfl
  have room : roomSync (s.afterReset rst set ev) = s.afterReset rst set ev := rfl
  rw [supply, tank, drain, room]

/-- In LOCKOUT no start begins, and a check that is IDLE is not due (R81, R144). -/
theorem starts_afterReset : startsSync (s.afterReset rst set ev) = s.afterReset rst set ev := by
  have locked : ¬ (s.afterReset rst set ev).idleNormal := fun h => nomatch h.2
  have undue : ¬ (s.afterReset rst set ev).checkMayStart := fun h => nomatch h.2.1
  have wait : waitSync (s.afterReset rst set ev) = s.afterReset rst set ev := if_neg fun h => locked h.1
  have start : startSync (s.afterReset rst set ev) = s.afterReset rst set ev := by
    rw [startSync, if_neg fun h => locked h.1, airflow_afterReset, wait]
  have check : checkStartSync (s.afterReset rst set ev) = s.afterReset rst set ev := if_neg undue
  rw [startsSync, if_neg fun h => undue h.1, start, check]

/-- In LOCKOUT with mode OFF and the check IDLE no timer runs and nothing starts (R78, R80, R92, R145). -/
theorem cycle_afterReset :
    startsSync (lossSync (timerSync (stopSync (demandSync (checkSync (s.afterReset rst set ev)))))) = s.afterReset rst set ev := by
  have check : checkSync (s.afterReset rst set ev) = s.afterReset rst set ev := rfl
  have demand : demandSync (s.afterReset rst set ev) = s.afterReset rst set ev := rfl
  have stop : stopSync (s.afterReset rst set ev) = s.afterReset rst set ev := if_neg fun h => level_afterReset h.1.1
  have timers : timerSync (s.afterReset rst set ev) = s.afterReset rst set ev :=
    (if_neg fun h => level_afterReset h.1).trans (if_neg fun h => nomatch h.2)
  have loss : lossSync (s.afterReset rst set ev) = s.afterReset rst set ev := if_neg fun h => nomatch h.1.2
  rw [check, demand, stop, timers, loss, starts_afterReset]

theorem idleSync_afterReset : idleSync (s.afterReset rst set ev) = s.afterReset rst set ev := rfl

/-! The raises -/

/-- The first cause enters the hold, and a further one joins its set (R106, R108). -/
theorem raiseCause_afterReset (c : HoldCause) :
    raiseCause c (s.afterReset rst set ev) = s.afterReset rst (insertCause c set) ev := by
  have running : ¬ (s.afterReset rst set ev).inStop := not_inStop_of_level level_afterReset
  by_cases empty : set = []
  · subst empty
    exact raiseCause_normal (cause := c) (s := s.afterReset rst [] ev) rfl rfl
  · refine (raiseCause_further running empty).trans ?_
    simp only [State.afterReset, Drying.afterReset, if_neg empty, if_neg (insertCause_ne_nil c set)]
    rfl

theorem mem_insertCause {c x : HoldCause} {set : List HoldCause} : c ∈ insertCause x set ↔ c ∈ set ∨ c = x := by
  unfold insertCause
  split
  · next there => exact ⟨.inl, fun h => h.elim id fun same => same ▸ there⟩
  · simp

/-- The causes of a list are raised one by one, each handed on to the Event Latch. -/
theorem raiseAll_afterReset (cs : List HoldCause) : ∀ {set : List HoldCause} {ev : Events}, ∃ set' e,
    raiseAll cs (s.afterReset rst set ev) = s.afterReset rst set' e ∧ ∀ c, c ∈ set' ↔ c ∈ set ∨ c ∈ cs := by
  induction cs with
  | nil => exact fun {set ev} => ⟨set, ev, rfl, by simp⟩
  | cons x cs ih =>
    intro set ev
    obtain ⟨e, published⟩ := publish_afterReset (s := s) (rst := rst) (set := insertCause x set) (ev := ev)
    obtain ⟨set', e', raised, members⟩ := ih (set := insertCause x set) (ev := e)
    refine ⟨set', e', ?_, fun c => ?_⟩
    · rw [raiseAll, raiseCause_afterReset, airflow_afterReset, published, raised]
    · rw [members, mem_insertCause, List.mem_cons, or_assoc]

theorem HoldCause.mem_all (c : HoldCause) : c ∈ HoldCause.all := by cases c <;> decide

/-- Outside step STOP the causes to raise are those that stand and are not in the hold-cause set (R103). -/
theorem mem_causesToRaise {u : State} (running : ¬ u.inStop) (c : HoldCause) :
    c ∈ causesToRaise u ↔ u.stands c = true ∧ c ∉ u.dry.holdSet := by
  simp [causesToRaise, State.causeSet, if_neg running, HoldCause.mem_all]

/-- No cause is to be cleared where every cause of the set stands (R103). -/
theorem causesToClear_eq_nil {u : State} (running : ¬ u.inStop) (held : ∀ c ∈ u.dry.holdSet, u.stands c = true) : causesToClear u = [] := by
  refine List.filter_eq_nil_iff.mpr fun c _ clears => ?_
  rw [State.causeSet, if_neg running, Bool.and_eq_true, decide_eq_true_iff] at clears
  simp [held c clears.2] at clears

/-- The owners bring the hold up to the causes that stand (R103). -/
theorem holdSync_afterReset (held : ∀ c ∈ set, (resetBlocks rst s).stands c = true) : ∃ set' e,
    holdSync (s.afterReset rst set ev) = s.afterReset rst set' e ∧ ∀ c, c ∈ set' ↔ (resetBlocks rst s).stands c = true := by
  have running : ¬ (s.afterReset rst set ev).inStop := not_inStop_of_level level_afterReset
  have clear : causesToClear (s.afterReset rst set ev) = [] :=
    causesToClear_eq_nil running fun c there => (stands_afterReset c).trans (held c there)
  have raise (c : HoldCause) : c ∈ causesToRaise (s.afterReset rst set ev) ↔ (resetBlocks rst s).stands c = true ∧ c ∉ set := by
    rw [mem_causesToRaise running, stands_afterReset]; rfl
  have standing (c : HoldCause) :
      c ∈ set ∨ c ∈ causesToRaise (s.afterReset rst set ev) ↔ (resetBlocks rst s).stands c = true := by
    rw [raise]
    exact ⟨fun h => h.elim (held c) And.left, fun stands => or_iff_not_imp_left.mpr fun new => ⟨stands, new⟩⟩
  obtain ⟨set', e, raised, members⟩ :=
    raiseAll_afterReset (s := s) (rst := rst) (causesToRaise (s.afterReset rst set ev)) (set := set) (ev := ev)
  refine ⟨set', e, ?_, fun c => (members c).trans (standing c)⟩
  rw [← raised, holdSync]
  by_cases quiet : causesToRaise (s.afterReset rst set ev) = []
  · rw [if_pos quiet, clear, quiet]; rfl
  · rw [if_neg quiet, if_pos clear]

/-- What follows from the full reset is the hold for the causes that stand, and no more (R103, R112). -/
theorem settleRound_afterReset (held : ∀ c ∈ set, (resetBlocks rst s).stands c = true) : ∃ set' e,
    settleRound (s.afterReset rst set ev) = s.afterReset rst set' e ∧ ∀ c, c ∈ set' ↔ (resetBlocks rst s).stands c = true := by
  obtain ⟨e₁, inputs⟩ := publish_afterReset (s := s) (rst := rst) (set := set) (ev := ev)
  obtain ⟨e₂, air⟩ := publish_afterReset (s := s) (rst := rst) (set := set) (ev := e₁)
  obtain ⟨set', e₃, holds, members⟩ := holdSync_afterReset (ev := e₂) held
  obtain ⟨e₄, last⟩ := publish_afterReset (s := s) (rst := rst) (set := set') (ev := e₃)
  refine ⟨set', e₄, ?_, members⟩
  have first : airAndHolds (s.afterReset rst set e₁) = s.afterReset rst set' e₃ := by
    rw [airAndHolds, if_neg fun h => not_airPending_afterReset h.1, airflow_afterReset, air, holds]
  rw [settleRound, inputs_afterReset, inputs, first, cycle_afterReset, idleSync_afterReset, airflow_afterReset, last]

theorem settleRounds_afterReset (n : Nat) : ∀ {set : List HoldCause} {ev : Events},
    (∀ c ∈ set, (resetBlocks rst s).stands c = true) → ∃ set' e,
      settleRounds (n + 1) (s.afterReset rst set ev) = s.afterReset rst set' e ∧ ∀ c, c ∈ set' ↔ (resetBlocks rst s).stands c = true := by
  induction n with
  | zero => exact settleRound_afterReset
  | succ n ih =>
    intro set ev held
    obtain ⟨set₁, e₁, round, members⟩ := settleRound_afterReset (ev := ev) held
    obtain ⟨set', e, rounds, settled⟩ := ih (set := set₁) (ev := e₁) fun c => (members c).mp
    exact ⟨set', e, by rw [settleRounds, round, rounds], settled⟩

/-- The part leaves reset in a hold for exactly the causes that stand, with the entry RESET alone and the conditions as they are (R112,
R164). -/
theorem leaveReset_eq (rst : Resets) (s : State) : ∃ set,
    let u := s.afterReset { rst with inReset := false } set (Events.atReset rst.cause)
    leaveReset rst s = u.setEv { Events.atReset rst.cause with stored := conditions u } ∧
      ∀ c, c ∈ set ↔ u.stands c = true := by
  obtain ⟨set, e, settled, members⟩ := settleRounds_afterReset (s := s) (rst := { rst with inReset := false }) 5 (set := [])
    (ev := Events.atReset rst.cause) (by simp)
  refine ⟨set, ?_, fun c => (members c).trans (by rw [stands_afterReset])⟩
  have settled : settle (resetBlocks { rst with inReset := false } s) = _ := settled
  rw [leaveReset, settled]
  rfl

/-- With the tank seated, the float down and the cover closed no cause stands, and the part is as after a power-on reset (R164). -/
theorem leaveReset_seated (rst : Resets) (tankIn : s.water.tankIn.pin = true) (float : s.water.float.pin = false)
    (cover : s.water.cover.pin = false) :
    leaveReset rst s = { State.reset with
      pending := s.pending, free := s.free, rst := { rst with inReset := false }, ev := Events.atReset rst.cause } := by
  have blocks (r : Resets) : resetBlocks r s = ((State.fullReset r true false false).setPending s.pending).setFree s.free := by
    rw [resetBlocks, tankIn, float, cover]
  obtain ⟨set, left, members⟩ := leaveReset_eq rst s
  have empty : set = [] := List.eq_nil_iff_forall_not_mem.mpr fun c there => by
    have stands := (members c).mp there
    rw [stands_afterReset, blocks] at stands
    cases c <;> exact Bool.false_ne_true stands
  rw [left, empty, State.afterReset, blocks]
  rfl

/-! The release of a source -/

theorem Resets.free_iff (r : Resets) :
    r.free = true ↔ r.cut = false ∧ r.srcPower = false ∧ r.srcPin = false ∧ r.srcLink = false := by
  simp [Resets.free, and_assoc]

/-- With no source left the part leaves reset (R153). -/
theorem afterRelease_last (inReset : rst.inReset = true)
    (released : rst.cut = false ∧ rst.srcPower = false ∧ rst.srcPin = false ∧ rst.srcLink = false) :
    afterRelease rst s = leaveReset rst s := if_pos ⟨inReset, rst.free_iff.mpr released⟩

/-- With a source left the release is noted alone (R153). -/
theorem afterRelease_more (asserted : rst.cut = true ∨ rst.srcPower = true ∨ rst.srcPin = true ∨ rst.srcLink = true) :
    afterRelease rst s = { s with rst := rst } := if_neg fun left => by
  obtain ⟨cut, power, pin, link⟩ := rst.free_iff.mp left.2
  simp [cut, power, pin, link] at asserted

end

/-- Settles O46: each release ends its source, and behind the last the blocks are at their full-reset values, with the hold that follows from
them. -/
theorem lastReleaseLeavesReset : Obligations.LastReleaseLeavesReset := by
  intro s inReset left ends
  have leaves (i : Instr) (rst : Resets) (run : exec i s = .next (leaveReset rst s)) : left i rst := by
    obtain ⟨set, leave, members⟩ := leaveReset_eq rst s
    refine ⟨leaveReset rst s, run, ?_⟩
    have seated := leaveReset_seated (s := s) rst
    rw [leave] at seated ⊢
    exact ⟨rfl, rfl, rfl, rfl, rfl, rfl, rfl, rfl, rfl, rfl, members, seated⟩
  have released (i : Instr) (rst : Resets) (still : rst.inReset = true) (run : exec i s = .next (afterRelease rst s)) : ends i rst :=
    ⟨fun last => leaves i rst (run.trans (by rw [afterRelease_last still last])), fun more => run.trans (by rw [afterRelease_more more])⟩
  refine ⟨fun cut releasing => ?cut, fun undue => ?undue, ?power, ?pin, ?link⟩
  case cut =>
    refine released .cutRelease _ inReset ?_
    exact congrArg Host.Outcome.next (if_pos ⟨cut, releasing⟩)
  case undue => exact congrArg Host.Outcome.next (if_neg undue)
  case power => exact released (.resetRelease .powerOn) _ inReset rfl
  case pin => exact released (.resetRelease .pin) _ inReset rfl
  case link => exact released (.resetRelease .linkFull) _ inReset rfl

end Sys2Proof.Machine

/-! The pump run with its output, and the pressure check with the FILTER row: every move of the core keeps them bound (R123, R144, R147). -/

namespace Sys2Proof.Machine

/-! PUMP_ON (R123) -/

theorem pumpFollowsRun_iff (s : State) : s.PumpFollowsRun ↔ (s.core.pumpOn = true ↔ s.core.pumpState = .running) := Iff.rfl

/-- Only the start, the end and the end of the rest of a run reach the output or the record's state. -/
theorem move_keeps_pumpFollowsRun (c d : Core) (m : Core.Move c d) (h : c.pumpOn = true ↔ c.pumpState = .running) :
    d.pumpOn = true ↔ d.pumpState = .running := by
  cases m
  case pumpStart => exact iff_of_true rfl rfl
  case pumpEnd => exact iff_of_false Bool.false_ne_true nofun
  case pumpIdle resting =>
    have off : ¬ c.pumpOn = true := fun on => nomatch resting.symm.trans (h.mp on)
    exact iff_of_false off nofun
  case reset => exact iff_of_false Bool.false_ne_true nofun
  all_goals exact h

/-! The FILTER row (R144, R147) -/

/-- The row is active exactly with a check under way; it is then EXACTLY, and COMP_ON is off. -/
def Core.RowFollowsCheck (c : Core) : Prop :=
  (c.row.active = true ↔ c.check.busy) ∧ (c.check.busy → c.row.kind = .exactly ∧ c.on = false)

theorem filterRowFollowsCheck_iff (s : State) : s.FilterRowFollowsCheck ↔ s.core.RowFollowsCheck := Iff.rfl

section
variable {c d : Core}

/-- With no check under way the row is all that counts. -/
theorem Core.RowFollowsCheck.of_idle (row : d.row.active = false) (idle : ¬ d.check.busy) : d.RowFollowsCheck :=
  ⟨iff_of_false (ne_true_of_eq_false row) idle, fun busy => absurd busy idle⟩

/-- COMP_ON may go off, and one state of a check under way may follow another. -/
theorem Core.RowFollowsCheck.same (h : c.RowFollowsCheck) (row : d.row = c.row) (check : c.check.busy ↔ d.check.busy)
    (off : c.on = false → d.on = false) : d.RowFollowsCheck := by
  obtain ⟨active, held⟩ := h
  unfold Core.RowFollowsCheck
  rw [row, ← check]
  exact ⟨active, fun busy => ⟨(held busy).1, off (held busy).2⟩⟩

end

theorem move_keeps_rowFollowsCheck (c d : Core) (m : Core.Move c d) (h : c.RowFollowsCheck) : d.RowFollowsCheck := by
  cases m
  case checkStart r off exact => exact ⟨iff_of_true exact.1 (.inl rfl), fun _ => ⟨exact.2, off⟩⟩
  case checkEnd x ended => exact .of_idle rfl ended
  case rowOff idle => exact .of_idle rfl idle
  case reset idle => exact .of_idle rfl idle
  case check x same => exact h.same rfl same id
  case start free => exact ⟨h.1, fun busy => absurd busy free⟩
  case stop | drop | startFails | defrost => exact h.same rfl .rfl fun _ => rfl
  case hold =>
    refine h.same rfl .rfl fun off => ?_
    dsimp only; split
    · rfl
    · exact off
  all_goals exact h

/-- Settles O10: every move keeps both, and the queue and a tick's counts do not reach them. -/
theorem pumpAndFilterRowFollowTheirRecords : Obligations.PumpAndFilterRowFollowTheirRecords :=
  ⟨fun _ t h e => (pumpFollowsRun_iff t).mpr
      (step_keeps (P := fun c => c.pumpOn = true ↔ c.pumpState = .running) move_keeps_pumpFollowsRun h h e),
   fun _ t h e => (filterRowFollowsCheck_iff t).mpr
      (step_keeps (P := Core.RowFollowsCheck) move_keeps_rowFollowsCheck h h e)⟩

end Sys2Proof.Machine

/-! The inputs' pins and the tank state (R116, R118 to R120), and the events of the drain and the pump run (R120, R124, R126, R127). -/

namespace Sys2Proof.Machine

/-! INPUT_PIN_CHANGE (R116) -/

section
variable {input : InputPin} {level : Bool} {s : State}

theorem exec_inputPinChange_inReset (inReset : s.rst.inReset = true) :
    exec (.inputPinChange input level) s = .next (setInput input { s.water.input input with pin := level } s) :=
  congrArg (fun x => Host.Outcome.next (setInput input x s)) (if_pos inReset)

theorem exec_inputPinChange_running (running : s.rst.inReset = false) :
    exec (.inputPinChange input level) s = .next (setInput input ((s.water.input input).takePin level) s) :=
  congrArg (fun x => Host.Outcome.next (setInput input x s)) (if_neg (ne_true_of_eq_false running))

end

/-! The tank state (R118 to R120) -/

section
variable {s : State}

theorem tankSync_eq (s : State) :
    tankSync s = { s with water := { s.water with tank := if s.tankHeld then .full else s.tankFresh } } := rfl

/-- FULL is held only where R119 names it. -/
theorem tankHeld_iff (s : State) : s.tankHeld = true ↔ s.water.tankIn.filtered = true ∧ s.water.tank = .full ∧
    (s.setup.optDrain = .bucket ∨ (s.setup.optDrain = .pump ∧ s.water.fault = true)) := by
  simp [State.tankHeld, and_assoc]

theorem tankHeld_absent (absent : s.water.tankIn.filtered = false) : ¬ s.tankHeld = true := fun held =>
  nomatch absent.symm.trans ((tankHeld_iff s).mp held).1

theorem tankHeld_gravity (gravity : s.setup.optDrain = .gravity) : ¬ s.tankHeld = true := fun held => by
  obtain ⟨-, -, mode⟩ := (tankHeld_iff s).mp held
  simp [gravity] at mode

theorem tankTable_absent (absent : s.water.tankIn.filtered = false) : s.tankTable = .out := if_pos absent

theorem tankTable_float (present : s.water.tankIn.filtered = true) (float : s.water.float.filtered = true) : s.tankTable = .full :=
  (if_neg (ne_false_of_eq_true present)).trans (if_pos float)

theorem tankTable_level (present : s.water.tankIn.filtered = true) (float : s.water.float.filtered = false) :
    s.tankTable = match s.qual .tankLvl with
      | some v => if 950 ≤ v then .full else if 800 ≤ v then .nearFull else .normal
      | none => .normal :=
  (if_neg (ne_false_of_eq_true present)).trans ((if_neg (ne_true_of_eq_false float)).trans (by cases s.qual .tankLvl <;> rfl))

theorem tankFresh_table (notGravity : s.setup.optDrain ≠ .gravity) : s.tankFresh = s.tankTable := by
  unfold State.tankFresh
  cases mode : s.setup.optDrain with
  | gravity => exact absurd mode notGravity
  | bucket => rfl
  | pump => rfl

theorem tankFresh_gravity (gravity : s.setup.optDrain = .gravity) :
    s.tankFresh = if s.water.tankIn.filtered = true then .normal else .out := by
  unfold State.tankFresh
  rw [gravity]

theorem tankFresh_absent (absent : s.water.tankIn.filtered = false) : s.tankFresh = .out := by
  by_cases gravity : s.setup.optDrain = .gravity
  · rw [tankFresh_gravity gravity, absent]; rfl
  · rw [tankFresh_table gravity, tankTable_absent absent]

/-- Beside GRAVITY, a mode is BUCKET or PUMP. -/
theorem Drain.pump_of_ne {mode : Drain} (notGravity : mode ≠ .gravity) (notBucket : mode ≠ .bucket) : mode = .pump := by
  cases mode
  case pump => rfl
  case gravity => exact absurd rfl notGravity
  case bucket => exact absurd rfl notBucket

end

/-- Settles O37: each pin by its own input's record, and the tank state by whether FULL is held, else by the line of the table. -/
theorem pinsAndTankStateFollowTheInputs : Obligations.PinsAndTankStateFollowTheInputs := by
  refine ⟨fun input level s => ?pins, fun s => ⟨_, tankSync_eq s, fun absent => ?absent, fun present gravity => ?gravity,
    fun present notGravity => ⟨fun float => ?float, fun was held => ?held, fun float free => ?free⟩⟩⟩
  case pins =>
    cases reset : s.rst.inReset
    · rw [exec_inputPinChange_running reset]; cases input <;> rfl
    · rw [exec_inputPinChange_inReset reset]; cases input <;> rfl
  case absent => rw [if_neg (tankHeld_absent absent), tankFresh_absent absent]
  case gravity => rw [if_neg (tankHeld_gravity gravity), tankFresh_gravity gravity, if_pos present]
  case float => rw [tankFresh_table notGravity, tankTable_float present float, ite_self]
  case held =>
    refine if_pos ((tankHeld_iff s).mpr ⟨present, was, ?_⟩)
    by_cases bucket : s.setup.optDrain = .bucket
    · exact .inl bucket
    · exact .inr ⟨Drain.pump_of_ne notGravity bucket, held.resolve_left bucket⟩
  case free =>
    have notHeld : ¬ s.tankHeld = true := by
      rw [tankHeld_iff]
      rintro ⟨-, full, mode⟩
      obtain ⟨pump, noFault⟩ := free.resolve_left (not_not_intro full)
      simp [pump, noFault] at mode
    rw [if_neg notHeld, tankFresh_table notGravity, tankTable_level present float]
    exact ⟨fun none => by rw [none], fun v value => by rw [value]⟩

/-! The rows of the drain and the pump run (R120, R124, R126, R127) -/

section
variable {s : State}

/-- A run that starts, written out (R124). -/
theorem startPump_eq (kind : PumpKind) (s : State) : startPump kind s = s.pumpStarted kind := rfl

theorem pumpTrigger_level {v : Int} (value : s.qual .tankLvl = some v) (high : 600 ≤ v) : s.pumpTrigger = some .level := by
  unfold State.pumpTrigger
  rw [value]
  exact if_pos high

/-- BLIND is the trigger where LEVEL is not: below 60.0 %, or with no value at all. -/
theorem pumpTrigger_blind (low : ∀ v, s.qual .tankLvl = some v → v < 600) (float : s.water.float.filtered = true) :
    s.pumpTrigger = some .blind := by
  unfold State.pumpTrigger
  cases value : s.qual .tankLvl with
  | none => exact if_pos float
  | some v => exact (if_neg (not_le.mpr (low v value))).trans (if_pos float)

/-- A run starts by its trigger where the other conditions hold (R124). -/
theorem autoPump_started {kind : PumpKind} (may : s.pumpMayStart) (trigger : s.pumpTrigger = some kind) :
    autoPump s = s.pumpStarted kind := by
  unfold autoPump
  rw [trigger, ← startPump_eq]
  exact if_pos may

theorem pumpNoFlow_due {a b : Int} (running : s.water.pump.state = .running) (elapsed : s.water.pump.elapsed = 30)
    (start : s.water.pump.startLevel = some a) (latest : s.water.pump.latestLevel = some b) (still : a - 50 < b) :
    s.pumpNoFlow = true := by
  simp [State.pumpNoFlow, State.pumping, running, elapsed, start, latest, still]

theorem pumpBlindDue_iff (s : State) : s.pumpBlindDue = true ↔
    s.water.pump.state = .running ∧ s.water.pump.elapsed = 45 ∧ s.water.pump.startLevel = none := by
  simp [State.pumpBlindDue, and_assoc]

theorem pumpTimedOut_iff (s : State) : s.pumpTimedOut = true ↔
    s.water.pump.state = .running ∧ s.water.pump.elapsed = 90 ∧ s.water.pump.startLevel ≠ none := by
  simp [State.pumpTimedOut, and_assoc, Option.isSome_iff_ne_none]

theorem pumpRested_iff (s : State) : s.pumpRested = true ↔
    s.water.pump.state = .resting ∧ ∃ n, s.water.pump.rest = some n ∧ 20 ≤ n := by
  unfold State.pumpRested
  rw [Bool.and_eq_true, decide_eq_true_iff, reached_iff]

/-- An event row that is not due. -/
theorem whenDue_undue {test : State → Prop} [DecidablePred test] {f : State → State} (undue : ¬ test s) : whenDue test f s = .next s := by
  unfold whenDue live
  dsimp only
  rw [if_neg undue, ite_self]

theorem exec_pumpRestEnd {n : Nat} (awake : s.rst.inReset = false) (resting : s.water.pump.state = .resting)
    (rest : s.water.pump.rest = some n) (long : 20 ≤ n) : exec .pumpRestEnd s = .next (s.after (endRest s)) :=
  whenDue_after (test := fun s => s.pumpRested = true) awake ((pumpRested_iff s).mpr ⟨resting, n, rest, long⟩)

end

/-- Settles O39: each row is due by its own test, and its change is the one written. -/
theorem pumpAndDrainEventsWhenDue : Obligations.PumpAndDrainEventsWhenDue := by
  intro s awake
  refine ⟨fun n blocked timer ended => ?drain, fun may => ⟨fun v value high => ?level, fun low float => ?blind⟩,
    fun running => ⟨fun a b untested elapsed start latest still => ?noFlow, fun tested => ?tested, fun elapsed blind => ?blindDone,
      fun elapsed measured => ?timeout⟩, fun n resting rest long => exec_pumpRestEnd awake resting rest long⟩
  case drain => exact whenDue_after (test := fun s => s.drainCleared) awake ⟨blocked, (reached_iff 60 _).mpr ⟨n, timer, ended⟩⟩
  case level =>
    have trigger := pumpTrigger_level value high
    rw [← autoPump_started may trigger]
    exact whenDue_after (test := fun s => s.pumpMayStart ∧ s.pumpTrigger.isSome) awake ⟨may, by rw [trigger]; rfl⟩
  case blind =>
    have trigger := pumpTrigger_blind low float
    rw [← autoPump_started may trigger]
    exact whenDue_after (test := fun s => s.pumpMayStart ∧ s.pumpTrigger.isSome) awake ⟨may, by rw [trigger]; rfl⟩
  case tested =>
    exact whenDue_undue (test := fun s => s.time.tested = false ∧ s.pumpNoFlow = true) fun due => nomatch tested.symm.trans due.1
  all_goals rw [← endPump_eq]
  case noFlow =>
    exact whenTicking_after (test := fun s => s.pumpNoFlow = true) awake untested (pumpNoFlow_due running elapsed start latest still)
  case blindDone =>
    exact whenDue_after (test := fun s => s.pumpBlindDue = true) awake ((pumpBlindDue_iff s).mpr ⟨running, elapsed, blind⟩)
  case timeout =>
    exact whenDue_after (test := fun s => s.pumpTimedOut = true) awake ((pumpTimedOut_iff s).mpr ⟨running, elapsed, measured⟩)

end Sys2Proof.Machine

/-! PUMP_RUN and PUMP_CANCEL (R128, R129), and the start triggers behind a change of the pump run (R124): what follows from a change reaches the
tank and drain states of the Water Controller's record, and no pump run. -/

namespace Sys2Proof.Machine

/-! The parts of a round that leave the Water Controller's record as it is -/

section
variable (s : State)

theorem publish_water : (publish s).water = s.water := rfl

theorem idleSync_water : (idleSync s).water = s.water := rfl

theorem oneShot_water (id : Nat) : (oneShot id s).water = s.water := by unfold oneShot; split <;> rfl

theorem takeDropout_water : (takeDropout s).water = s.water := by unfold takeDropout; split <;> rfl

theorem endCheck_water (r : CheckResult) : (endCheck r s).water = s.water := oneShot_water _ 25

theorem abortFilter_water : (abortFilter s).water = s.water := by
  unfold abortFilter preemptCheck
  split
  · split
    · exact endCheck_water s .preempted
    · rfl
  · rfl

theorem updateGrant_water : (updateGrant s).water = s.water := by unfold updateGrant; dsimp only; split <;> rfl

theorem interlock_water : (interlock s).water = s.water := by
  unfold interlock
  split
  · exact takeDropout_water _
  · rfl

theorem updateShort_water : (updateShort s).water = s.water := by
  unfold updateShort; dsimp only
  split
  · rfl
  · split <;> rfl

theorem airflow_water : (airflow s).water = s.water := by
  rw [airflow, updateShort_water, interlock_water, updateGrant_water, abortFilter_water]

theorem enterHold_water : (enterHold s).water = s.water := by
  unfold enterHold holdFromNormal; dsimp only
  split
  · rfl
  · split <;> rfl

theorem endHold_water : (endHold s).water = s.water := by
  unfold endHold
  split
  · rfl
  · split <;> rfl

theorem raiseCause_water (c : HoldCause) : (raiseCause c s).water = s.water := by
  unfold raiseCause
  split
  · rfl
  · split
    · exact enterHold_water _
    · rfl

theorem clearCause_water (c : HoldCause) : (clearCause c s).water = s.water := by
  unfold clearCause
  split
  · rfl
  · dsimp only; split
    · exact endHold_water _
    · rfl

theorem raiseAll_water (cs : List HoldCause) : (raiseAll cs s).water = s.water := by
  induction cs generalizing s with
  | nil => rfl
  | cons c cs ih => exact (ih _).trans ((airflow_water _).trans (raiseCause_water s c))

theorem clearAll_water (cs : List HoldCause) : (clearAll cs s).water = s.water := by
  induction cs generalizing s with
  | nil => rfl
  | cons c cs ih => exact (ih _).trans ((airflow_water _).trans (clearCause_water s c))

theorem holdSync_water : (holdSync s).water = s.water := by
  unfold holdSync; dsimp only
  split
  · exact clearAll_water s _
  · split
    · exact raiseAll_water s _
    · split
      · exact (clearAll_water _ _).trans (raiseAll_water _ _)
      · exact (raiseAll_water _ _).trans (clearAll_water _ _)

theorem airAndHolds_water : (airAndHolds s).water = s.water := by
  unfold airAndHolds
  split
  · split
    · exact (holdSync_water _).trans (airflow_water _)
    · exact (airflow_water _).trans (holdSync_water _)
  · exact (holdSync_water _).trans (airflow_water _)

theorem supplySync_water : (supplySync s).water = s.water := by
  unfold supplySync; dsimp only
  split
  · rfl
  · split
    · split
      · rfl
      · split <;> rfl
    · rfl

theorem roomSync_water : (roomSync s).water = s.water := by
  unfold roomSync
  split
  · split
    · rfl
    · split <;> rfl
  · rfl

theorem checkSync_water : (checkSync s).water = s.water := by
  unfold checkSync
  split
  · exact endCheck_water _ _
  · split
    · rfl
    · split
      · dsimp only; split
        · exact endCheck_water _ _
        · rfl
      · rfl

theorem demandSync_water : (demandSync s).water = s.water := by unfold demandSync; split <;> rfl

theorem stopSync_water : (stopSync s).water = s.water := by
  unfold stopSync endStop; dsimp only
  split
  · split
    · rfl
    · exact enterHold_water _
  · rfl

theorem timerSync_water : (timerSync s).water = s.water := by
  unfold timerSync
  split
  · rfl
  · split <;> rfl

theorem lossSync_water : (lossSync s).water = s.water := by unfold lossSync; split <;> rfl

theorem waitSync_water : (waitSync s).water = s.water := by
  unfold waitSync enterStarting; dsimp only
  split
  · split
    · rfl
    · split
      · split
        · rfl
        · exact takeDropout_water _
      · rfl
  · rfl

theorem startSync_water : (startSync s).water = s.water := by
  have attempted : (if s.attemptDue then beginAttempt s else s).water = s.water := by split <;> rfl
  exact (waitSync_water _).trans ((airflow_water _).trans attempted)

theorem checkStartSync_water : (checkStartSync s).water = s.water := by
  unfold checkStartSync
  split
  · exact airflow_water _
  · rfl

theorem startsSync_water : (startsSync s).water = s.water := by
  unfold startsSync
  split
  · split
    · exact (checkStartSync_water _).trans (startSync_water _)
    · exact (startSync_water _).trans (checkStartSync_water _)
  · exact (checkStartSync_water _).trans (startSync_water _)

/-! The pump run -/

theorem tankSync_pump : (tankSync s).water.pump = s.water.pump := rfl

theorem drainSync_pump : (drainSync s).water.pump = s.water.pump := by
  unfold drainSync
  split
  · rfl
  · split
    · rfl
    · split <;> rfl

/-- A round evaluates the tank and drain states, and leaves the run's record as it is. -/
theorem settleRound_pump : (settleRound s).water.pump = s.water.pump := by
  unfold settleRound; dsimp only
  rw [publish_water, airflow_water, idleSync_water, startsSync_water, lossSync_water, timerSync_water, stopSync_water, demandSync_water,
    checkSync_water, airAndHolds_water, publish_water, roomSync_water, drainSync_pump, tankSync_pump, supplySync_water]

/-- What follows from a change neither starts nor ends a pump run. -/
theorem settle_pump : (settle s).water.pump = s.water.pump := by
  have rounds (n : Nat) : ∀ u : State, (settleRounds n u).water.pump = u.water.pump := by
    induction n with
    | zero => exact fun _ => rfl
    | succ n ih => exact fun u => (ih (settleRound u)).trans (settleRound_pump u)
  exact rounds roundLimit s

theorem settle_qual (c : Channel) : (settle s).qual c = s.qual c :=
  congrArg (fun chans => (PerChannel.get chans c).value) (kept_chans (settle_kept s))

/-- The start triggers leave the supply state to its owner. -/
theorem autoPump_supplyLow : (autoPump s).supplyLow = s.supplyLow := by
  unfold autoPump
  split
  · split <;> rfl
  · rfl

theorem inIdOrder_water (t : State) : (inIdOrder s t).water = t.water := rfl

theorem inIdOrder_supplyLow (t : State) : (inIdOrder s t).supplyLow = t.supplyLow := rfl

end

/-- A change of the pump run's state is followed by a test of the start triggers (R124). -/
theorem after_pumpMoved {s u : State} (moved : u.water.pump.state ≠ s.water.pump.state) :
    s.after u = inIdOrder s (autoPump (settle u)) := by
  have changed : pumpInputsChanged s (settle u) = true := by
    unfold pumpInputsChanged
    rw [settle_pump, decide_eq_true moved]
    simp
  unfold State.after event
  dsimp only
  rw [if_pos changed]

/-! PUMP_RUN and PUMP_CANCEL (R128, R129) -/

section
variable (h : State)

theorem take_pumpRun : take .pumpRun h =
    if h.link.part ≠ .active then refuse .wrongState 0 h
    else if h.setup.optDrain ≠ .pump then refuse .notFitted 0 h
    else if h.water.fault = true then refuse .faultLatched 0 h
    else if h.water.pump.state ≠ .idle then refuse .busy 0 h
    else if h.water.tankIn.filtered = false then refuse .wrongState 1 h
    else if h.supplyLow = true then refuse .wrongState 2 h
    else accept (fun u => u.pumpStarted .host) (fun t => t.water.pump.bytes) h := rfl

theorem take_pumpCancel : take .pumpCancel h =
    if h.link.part ≠ .active then refuse .wrongState 0 h
    else if h.setup.optDrain ≠ .pump then refuse .notFitted 0 h
    else accept cancelPump (fun t => t.water.pump.bytes) h := rfl

theorem cancelPump_eq : cancelPump h = if h.water.pump.state = .running then h.pumpEnded .cancelled else h := by
  unfold cancelPump
  rw [endPump_eq]

/-- A run that has started is no idle record. -/
theorem not_pumpMayStart_pumpStarted (kind : PumpKind) : ¬ (h.pumpStarted kind).pumpMayStart := fun may => nomatch may.1

end

/-- A request taken by a test has its row by the same test. -/
theorem exec_cond {i : Instr} {r : Request} {s h u v : State} {p : Prop} [Decidable p] {a b : Taken}
    (taken : take r h = if p then a else b) (yes : take r h = a → exec i s = .next u) (no : take r h = b → exec i s = .next v) :
    exec i s = .next (if p then u else v) := by
  split
  · next holds => exact yes (taken.trans (if_pos holds))
  · next fails => exact no (taken.trans (if_neg fails))

section
variable {s h : State}

/-- PUMP_RUN, row by row. -/
theorem Hears.pumpRun (hears : Hears s h) : exec .pumpRun s = .next (
    if h.link.part ≠ .active then h.declined .pumpRun .wrongState 0
    else if h.setup.optDrain ≠ .pump then h.declined .pumpRun .notFitted 0
    else if h.water.fault = true then h.declined .pumpRun .faultLatched 0
    else if h.water.pump.state ≠ .idle then h.declined .pumpRun .busy 0
    else if h.water.tankIn.filtered = false then h.declined .pumpRun .wrongState 1
    else if h.supplyLow = true then h.declined .pumpRun .wrongState 2
    else (h.after (h.pumpStarted .host)).replied .pumpRun (h.after (h.pumpStarted .host)).water.pump.bytes) := by
  have no {reason : Reason} {detail : Nat} : take .pumpRun h = refuse reason detail h →
    exec .pumpRun s = .next (h.declined .pumpRun reason detail) := hears.refused rfl
  refine exec_cond (take_pumpRun h) no fun row => exec_cond row no fun row => exec_cond row no fun row => exec_cond row no fun row =>
    exec_cond row no fun row => exec_cond row no fun row => ?_
  exact (hears.event .pumpRun rfl row nofun :)

/-- PUMP_CANCEL, row by row. -/
theorem Hears.pumpCancel (hears : Hears s h) : exec .pumpCancel s = .next (
    if h.link.part ≠ .active then h.declined .pumpCancel .wrongState 0
    else if h.setup.optDrain ≠ .pump then h.declined .pumpCancel .notFitted 0
    else (h.after (if h.water.pump.state = .running then h.pumpEnded .cancelled else h)).replied .pumpCancel
      (h.after (if h.water.pump.state = .running then h.pumpEnded .cancelled else h)).water.pump.bytes) := by
  have no {reason : Reason} {detail : Nat} : take .pumpCancel h = refuse reason detail h →
    exec .pumpCancel s = .next (h.declined .pumpCancel reason detail) := hears.refused rfl
  refine exec_cond (take_pumpCancel h) no fun row => exec_cond row no fun row => ?_
  have answered := hears.event .pumpCancel rfl row nofun
  rwa [cancelPump_eq] at answered

end

/-- Settles O40: the rows in their order; a refusal reaches the answer place alone, and a run that has started is not idle. -/
theorem pumpRunStartsAHostRun : Obligations.PumpRunStartsAHostRun := fun s listening =>
  ⟨listening.hears.pumpRun, fun _ _ => rfl, not_pumpMayStart_pumpStarted (clearSilence s) .host⟩

/-- After the rest a full tank starts a LEVEL run in the same event, with the supply in order behind it (R129). -/
theorem endRest_starts {s : State} {v : Int} (resting : s.water.pump.state = .resting) (active : s.link.part = .active)
    (drain : s.setup.optDrain = .pump) (present : s.water.tankIn.filtered = true) (noFault : s.water.fault = false)
    (value : s.qual .tankLvl = some v) (high : 600 ≤ v) (supply : (s.after (endRest s)).supplyLow = false) :
    (s.after (endRest s)).water.pump.state = .running ∧ (s.after (endRest s)).water.pump.kind = some .level := by
  have moved : (endRest s).water.pump.state ≠ s.water.pump.state := fun same => nomatch same.trans resting
  rw [after_pumpMoved moved] at supply ⊢
  rw [inIdOrder_supplyLow, autoPump_supplyLow] at supply
  rw [inIdOrder_water]
  have kept := settle_kept (endRest s)
  have idle : (settle (endRest s)).water.pump.state = .idle := by rw [settle_pump]; rfl
  have trigger := pumpTrigger_level ((settle_qual (endRest s) .tankLvl).trans value) high
  have may : (settle (endRest s)).pumpMayStart :=
    ⟨idle, (congrArg Link.part (kept_link kept)).trans active, (congrArg Setup.optDrain (kept_setup kept)).trans drain,
      (congrArg Input.filtered (kept_tankIn kept)).trans present, (kept_pumpFault kept).trans noFault,
      supply⟩
  rw [autoPump_started may trigger]
  exact ⟨rfl, rfl⟩

/-- Settles O41: the request's rows in their order, and the end of the rest by the trigger that holds behind it. -/
theorem pumpCancelEndsARun : Obligations.PumpCancelEndsARun := by
  refine ⟨fun s listening => listening.hears.pumpCancel, ?restarts⟩
  intro s t n v awake resting rest long active drain present noFault value high run supply
  obtain rfl := Host.Outcome.next.inj ((exec_pumpRestEnd awake resting rest long).symm.trans run)
  exact endRest_starts resting active drain present noFault value high supply

end Sys2Proof.Machine

/-! The accounts of a second of air and the wear of a slot (R133, R135, R136). -/

namespace Sys2Proof.Machine

/-! The charge of one record (R135, R136) -/

/-- An account that takes the whole units of `n` parts and keeps the rest is exact until it saturates, and does not fall below the units it
held. -/
theorem account_exact (unit n held : Nat) (positive : 0 < unit) (sum : held * unit ≤ n) :
    n % unit < unit ∧ min maxCount32 (n / unit) ≤ maxCount32 ∧
      (min maxCount32 (n / unit) < maxCount32 → min maxCount32 (n / unit) * unit + n % unit = n) ∧
      (held ≤ maxCount32 → held ≤ min maxCount32 (n / unit)) := by
  refine ⟨Nat.mod_lt n positive, min_le_left _ _, fun short => ?_, fun inside => le_min inside ?_⟩
  · rw [min_eq_right (by omega)]
    exact Nat.div_add_mod' n unit
  · exact (Nat.le_div_iff_mul_le positive).mpr sum

/-- Parts added to an account, with the whole units held so far counted among them. -/
theorem account_add (unit held parts : Nat) (positive : 0 < unit) :
    held + parts / unit = (held * unit + parts) / unit ∧ parts % unit = (held * unit + parts) % unit := by
  rw [Nat.add_comm (held * unit), Nat.add_mul_div_right _ _ positive, Nat.add_mul_mod_self_right, Nat.add_comm held]
  exact ⟨rfl, rfl⟩

section
variable (flow conc : Nat) (r : SlotRec)

/-- Dust by the µg and its parts (R135). -/
theorem SlotRec.charge_load :
    let t := r.charge flow conc
    t.loadRem < 3600000000 ∧ t.load ≤ 4294967295 ∧
      (t.load < 4294967295 → t.load * 3600000000 + t.loadRem = r.load * 3600000000 + r.loadRem + flow * conc * r.capture) ∧
      (r.load ≤ 4294967295 → r.load ≤ t.load) := by
  have added := account_add 3600000000 r.load (r.loadRem + flow * conc * r.capture) (by decide)
  have kept := account_exact 3600000000 _ r.load (by decide) (Nat.le_add_right _ (r.loadRem + flow * conc * r.capture))
  rw [← added.1, ← added.2, ← Nat.add_assoc] at kept
  exact kept

/-- Volume by the 0.01 m³ and its parts (R136). -/
theorem SlotRec.charge_volume :
    let t := r.charge flow conc
    t.volumeRem < 36 ∧ t.volume ≤ 4294967295 ∧
      (t.volume < 4294967295 → t.volume * 36 + t.volumeRem = r.volume * 36 + r.volumeRem + flow) ∧
      (r.volume ≤ 4294967295 → r.volume ≤ t.volume) := by
  have added := account_add 36 r.volume (r.volumeRem + flow) (by decide)
  have kept := account_exact 36 _ r.volume (by decide) (Nat.le_add_right _ (r.volumeRem + flow))
  rw [← added.1, ← added.2, ← Nat.add_assoc] at kept
  exact kept

end

/-! The charge of the three slots -/

theorem chargeAir_setup (flow : Nat) {s : State} (setup : s.link.part = .setup) : chargeAir flow s = s := by
  have inactive : ¬ s.isActive := fun active => nomatch setup.symm.trans active
  exact if_neg inactive

/-- A slot visited with the concentration `conc`: an EMPTY record is passed by, and any other is charged and its wear evaluated. -/
theorem chargeAir_slot {flow conc : Nat} {s : State} (active : s.link.part = .active) (n : Slot)
    (visited : (chargeSlots s.setup.pressureSlot flow s.concentration s.filt.slots).get n =
      (s.slot n).visit (decide (s.setup.pressureSlot = n)) flow conc) :
    ((s.slot n).state = .empty → (chargeAir flow s).slot n = s.slot n) ∧
      ((s.slot n).state ≠ .empty →
        (chargeAir flow s).slot n = ((s.slot n).charge flow conc).evaluate (decide (s.setup.pressureSlot = n))) := by
  have slot : (chargeAir flow s).slot n = (s.slot n).visit (decide (s.setup.pressureSlot = n)) flow conc := by
    have slots := chargeAir_slots flow s
    rw [if_pos active] at slots
    exact (congrArg (fun p => p.get n) slots).trans visited
  rw [slot]
  exact ⟨fun empty => if_pos empty, fun fitted => if_neg fitted⟩

/-! Wear (R133) -/

section
variable {isPressure : Bool} {r : SlotRec}

theorem SlotRec.riseReaches_iff (isPressure : Bool) (k : Nat) (r : SlotRec) : r.riseReaches isPressure k = true ↔
    isPressure = true ∧ ∃ b l, r.baseline = some b ∧ r.latest = some l ∧ ((k * r.riseLimit : Nat) : Int) ≤ l - b := by
  unfold SlotRec.riseReaches SlotRec.rise
  cases r.baseline <;> cases r.latest <;> simp

/-- The highest wear reached, with the test that reaches it and the tests above it that do not. -/
theorem SlotRec.wearReached_cases (isPressure : Bool) (r : SlotRec) :
    (r.wearReached isPressure = .clogged ∧ r.riseReaches isPressure 2 = true) ∨
    (r.wearReached isPressure = .worn ∧ ¬ r.riseReaches isPressure 2 = true ∧
      (r.ratedUnits ≤ r.used ∨ r.riseReaches isPressure 1 = true)) ∨
    (r.wearReached isPressure = .nearWorn ∧ ¬ r.riseReaches isPressure 2 = true ∧
      ¬ (r.ratedUnits ≤ r.used ∨ r.riseReaches isPressure 1 = true) ∧ 9 * r.ratedUnits ≤ 10 * r.used) ∨
    (r.wearReached isPressure = .fitted ∧ ¬ r.riseReaches isPressure 2 = true ∧
      ¬ (r.ratedUnits ≤ r.used ∨ r.riseReaches isPressure 1 = true) ∧ ¬ 9 * r.ratedUnits ≤ 10 * r.used) := by
  unfold SlotRec.wearReached
  split
  · next rises => exact .inl ⟨rfl, rises⟩
  · next steady =>
    split
    · next worn => exact .inr (.inl ⟨rfl, steady, worn⟩)
    · next short =>
      split
      · next near => exact .inr (.inr (.inl ⟨rfl, steady, short, near⟩))
      · next far => exact .inr (.inr (.inr ⟨rfl, steady, short, far⟩))

theorem SlotRec.evaluate_raised (fitted : r.state ≠ .empty) (higher : r.state.rank < (r.wearReached isPressure).rank) :
    r.evaluate isPressure = { r with state := r.wearReached isPressure, wornReason := r.reasonFor (r.wearReached isPressure) } :=
  if_pos ⟨fitted, higher⟩

theorem SlotRec.evaluate_kept (notHigher : r.state = .empty ∨ (r.wearReached isPressure).rank ≤ r.state.rank) :
    r.evaluate isPressure = r :=
  if_neg fun raised => notHigher.elim raised.1 (not_le.mpr raised.2)

/-- Only the state and the worn reason are evaluated. -/
theorem SlotRec.evaluate_frame (isPressure : Bool) (r : SlotRec) :
    r.evaluate isPressure = { r with state := (r.evaluate isPressure).state, wornReason := (r.evaluate isPressure).wornReason } := by
  unfold SlotRec.evaluate; dsimp only; split <;> rfl

/-- A fitted slot stands behind the evaluation at the higher of its state and the wear reached. -/
theorem SlotRec.evaluate_rank (fitted : r.state ≠ .empty) :
    (r.evaluate isPressure).state.rank = max r.state.rank (r.wearReached isPressure).rank := by
  by_cases higher : r.state.rank < (r.wearReached isPressure).rank
  · rw [evaluate_raised fitted higher, max_eq_right higher.le]
  · rw [evaluate_kept (.inr (not_lt.mp higher)), max_eq_left (not_lt.mp higher)]

theorem SlotRec.rank_le_evaluate (isPressure : Bool) (r : SlotRec) : r.state.rank ≤ (r.evaluate isPressure).state.rank := by
  by_cases empty : r.state = .empty
  · rw [evaluate_kept (.inl empty)]
  · rw [evaluate_rank empty]; exact le_max_left _ _

/-- CLOGGED is the only state of rank 4. -/
theorem SlotState.clogged_of_rank {x : SlotState} (top : 4 ≤ x.rank) : x = .clogged := by
  cases x with
  | clogged => rfl
  | empty | fitted | nearWorn | worn => exact absurd top (by decide)

/-- The tests that a fitted slot's state answers to, from below. -/
theorem SlotRec.evaluate_reaches (fitted : r.state ≠ .empty) :
    (r.riseReaches isPressure 2 = true → (r.evaluate isPressure).state = .clogged) ∧
      (r.ratedUnits ≤ r.used ∨ r.riseReaches isPressure 1 = true → 3 ≤ (r.evaluate isPressure).state.rank) ∧
      (9 * r.ratedUnits ≤ 10 * r.used → 2 ≤ (r.evaluate isPressure).state.rank) := by
  have reached : (r.wearReached isPressure).rank ≤ (r.evaluate isPressure).state.rank := by
    rw [evaluate_rank fitted]; exact le_max_right _ _
  rcases r.wearReached_cases isPressure with ⟨wear, -⟩ | ⟨wear, steady, -⟩ | ⟨wear, steady, short, -⟩ | ⟨wear, steady, short, far⟩
  all_goals rw [wear] at reached
  · have top : 4 ≤ (r.evaluate isPressure).state.rank := reached
    exact ⟨fun _ => SlotState.clogged_of_rank top, fun _ => by omega, fun _ => by omega⟩
  · have worn : 3 ≤ (r.evaluate isPressure).state.rank := reached
    exact ⟨fun rises => absurd rises steady, fun _ => worn, fun _ => by omega⟩
  · exact ⟨fun rises => absurd rises steady, fun full => absurd full short, fun _ => reached⟩
  · exact ⟨fun rises => absurd rises steady, fun full => absurd full short, fun near => absurd near far⟩

/-- A state that is higher than before is the wear reached, with the reason of its test. -/
theorem SlotRec.evaluate_rises (rose : r.state.rank < (r.evaluate isPressure).state.rank) :
    ((r.evaluate isPressure).state = .clogged →
      r.riseReaches isPressure 2 = true ∧ (r.evaluate isPressure).wornReason = some .pressure) ∧
    ((r.evaluate isPressure).state = .worn →
      (r.ratedUnits ≤ r.used ∨ r.riseReaches isPressure 1 = true) ∧
        (r.evaluate isPressure).wornReason = some (if r.ratedUnits ≤ r.used then r.ratingKind.reason else .pressure)) ∧
    ((r.evaluate isPressure).state = .nearWorn →
      9 * r.ratedUnits ≤ 10 * r.used ∧ (r.evaluate isPressure).wornReason = r.wornReason) := by
  by_cases raised : r.state ≠ .empty ∧ r.state.rank < (r.wearReached isPressure).rank
  · rw [evaluate_raised raised.1 raised.2]
    rcases r.wearReached_cases isPressure with ⟨wear, rises⟩ | ⟨wear, -, full⟩ | ⟨wear, -, -, near⟩ | ⟨wear, -⟩
    all_goals rw [wear]
    · exact ⟨fun _ => ⟨rises, rfl⟩, nofun, nofun⟩
    · exact ⟨nofun, fun _ => ⟨full, (apply_ite some _ _ _).symm⟩, nofun⟩
    · exact ⟨nofun, nofun, fun _ => ⟨near, rfl⟩⟩
    · exact ⟨nofun, nofun, nofun⟩
  · exact absurd (congrArg (fun t => t.state.rank) (if_neg raised : r.evaluate isPressure = r)) rose.ne'

/-- A state of the same rank is no change at all. -/
theorem SlotRec.evaluate_same (same : (r.evaluate isPressure).state.rank = r.state.rank) : r.evaluate isPressure = r := by
  by_cases raised : r.state ≠ .empty ∧ r.state.rank < (r.wearReached isPressure).rank
  · rw [evaluate_raised raised.1 raised.2] at same
    exact absurd same raised.2.ne'
  · exact if_neg raised

end

/-- Settles O44: each account takes the whole units of its parts and keeps the rest, the slots are visited in their order, and wear is raised
to the highest state a test reaches. -/
theorem airIsChargedExactlyAndWearRises : Obligations.AirIsChargedExactlyAndWearRises := by
  refine ⟨fun flow conc r => ?charge, fun flow s => ⟨chargeAir_setup flow, fun active =>
    ⟨chargeAir_slot active .pre rfl, chargeAir_slot active .fine rfl, chargeAir_slot active .carbon rfl⟩⟩, fun isPressure r => ?wear⟩
  case charge =>
    obtain ⟨loadRem, load, loadExact, loadRises⟩ := r.charge_load flow conc
    obtain ⟨volumeRem, volume, volumeExact, volumeRises⟩ := r.charge_volume flow conc
    exact ⟨loadRem, volumeRem, load, volume, rfl, loadExact, volumeExact, loadRises, volumeRises⟩
  case wear =>
    refine ⟨r.evaluate_frame isPressure, r.rank_le_evaluate isPressure, fun empty => SlotRec.evaluate_kept (.inl empty), fun fitted => ?_⟩
    simp only [← SlotRec.riseReaches_iff]
    obtain ⟨clogged, worn, near⟩ := SlotRec.evaluate_reaches (isPressure := isPressure) fitted
    exact ⟨clogged, worn, near, SlotRec.evaluate_same, SlotRec.evaluate_rises⟩

end Sys2Proof.Machine

/-! FILTER_FIT, FILTER_REMOVE, FILTER_CHECK and the event rows of the pressure check (R138 to R147). -/

namespace Sys2Proof.Machine

/-! The slot and the rating kind of a code (R131, R171) -/

/-- The slot of a byte from 0 to 2. -/
def slotOfByte (slot : Byte) : Slot := if slot.toNat = 0 then .pre else if slot.toNat = 1 then .fine else .carbon

theorem Slot.ofNum_byte {slot : Byte} (known : ¬ 2 < slot.toNat) : Slot.ofNum slot.toNat = some (slotOfByte slot) := by
  unfold slotOfByte
  obtain h | h | h : slot.toNat = 0 ∨ slot.toNat = 1 ∨ slot.toNat = 2 := by omega
  all_goals rw [h]; rfl

/-- The rating kind of a byte from 0 to 2. -/
def ratingOfByte (rating : Byte) : RatingKind :=
  if rating.toNat = 0 then .load else if rating.toNat = 1 then .volume else .hours

theorem ratingOf_byte {rating : Byte} (known : ¬ 2 < rating.toNat) : ratingOf rating.toNat = some (ratingOfByte rating) := by
  unfold ratingOfByte
  obtain h | h | h : rating.toNat = 0 ∨ rating.toNat = 1 ∨ rating.toNat = 2 := by omega
  all_goals rw [h]; rfl

theorem ratingOf_beyond {n : Nat} (beyond : 2 < n) : ratingOf n = none := by
  obtain ⟨k, rfl⟩ := Nat.exists_eq_add_of_le' beyond
  rfl

/-! FILTER_REMOVE (R140) -/

section
variable (h : State)

theorem take_filterRemove (slot : Byte) : take (.filterRemove slot) h =
    if h.link.part ≠ .active then refuse .wrongState 0 h
    else if 2 < slot.toNat then refuse .badValue 0 h
    else if h.setup.optSlots.get (slotOfByte slot) = false then refuse .notFitted 0 h
    else accept (applyRemove (slotOfByte slot)) (fun t => slotBytes (slotOfByte slot) (t.slot (slotOfByte slot))) h := by
  refine if_congr Iff.rfl rfl ?_
  by_cases beyond : 2 < slot.toNat
  · rw [if_pos beyond, Slot.ofNum_none beyond]
  · rw [if_neg beyond, Slot.ofNum_byte beyond]; rfl

/-- The check after its slot is removed, by its state. -/
theorem removeCheck_eq :
    let c : Check := { h.filt.check with runCount := 0 }
    removeCheck h =
      if c.state = .waiting ∨ c.state = .sampling then (h.withCheck c).checkEnded .removed
      else if c.state = .due then h.withCheck { c with state := .idle, dueCause := none, retry := none, requested := false }
      else h.withCheck c := by
  intro c
  rw [← endCheck_eq (by decide)]
  rfl

/-- A removal takes a fitted slot's record, and the check with it where the slot is the pressure slot. -/
theorem applyRemove_eq (n : Slot) : applyRemove n h =
    if (h.slot n).state = .empty then h
    else if n ≠ h.setup.pressureSlot then h.withSlot n (SlotRec.emptyWith (h.slot n).coverOpened)
    else removeCheck (h.withSlot n (SlotRec.emptyWith (h.slot n).coverOpened)) := by
  rw [ite_not]; rfl

/-! FILTER_CHECK (R143) -/

theorem take_filterCheck : take .filterCheck h =
    if h.link.part ≠ .active then refuse .wrongState 0 h
    else if (h.slot h.setup.pressureSlot).state = .empty then refuse .notFitted 0 h
    else if h.filt.check.state = .waiting ∨ h.filt.check.state = .sampling then refuse .busy 0 h
    else acceptAhead requestCheck (fun t => t.filt.check.bytes) h := rfl

end

section
variable {s h : State}

/-- FILTER_REMOVE, row by row. -/
theorem Hears.filterRemove (hears : Hears s h) (slot : Byte) : exec (.filterRemove slot) s = .next (
    if h.link.part ≠ .active then h.declined (.filterRemove slot) .wrongState 0
    else if 2 < slot.toNat then h.declined (.filterRemove slot) .badValue 0
    else if h.setup.optSlots.get (slotOfByte slot) = false then h.declined (.filterRemove slot) .notFitted 0
    else (h.after (applyRemove (slotOfByte slot) h)).replied (.filterRemove slot)
      (slotBytes (slotOfByte slot) ((h.after (applyRemove (slotOfByte slot) h)).slot (slotOfByte slot)))) := by
  have no {reason : Reason} {detail : Nat} : take (.filterRemove slot) h = refuse reason detail h →
    exec (.filterRemove slot) s = .next (h.declined (.filterRemove slot) reason detail) := hears.refused rfl
  refine exec_cond (take_filterRemove h slot) no fun row => exec_cond row no fun row => exec_cond row no fun row => ?_
  exact (hears.event (.filterRemove slot) rfl row nofun :)

/-- FILTER_CHECK, row by row. -/
theorem Hears.filterCheck (hears : Hears s h) : exec .filterCheck s = .next (
    if h.link.part ≠ .active then h.declined .filterCheck .wrongState 0
    else if (h.slot h.setup.pressureSlot).state = .empty then h.declined .filterCheck .notFitted 0
    else if h.filt.check.state = .waiting ∨ h.filt.check.state = .sampling then h.declined .filterCheck .busy 0
    else (h.after (requestCheck h)).replied .filterCheck (requestCheck h).filt.check.bytes) := by
  have no {reason : Reason} {detail : Nat} : take .filterCheck h = refuse reason detail h →
    exec .filterCheck s = .next (h.declined .filterCheck reason detail) := hears.refused rfl
  refine exec_cond (take_filterCheck h) no fun row => exec_cond row no fun row => exec_cond row no fun row => ?_
  exact hears.accepted rfl (row.trans (acceptAhead_after requestCheck _ h)) nofun

/-! The check's event rows (R142, R144, R145) -/

theorem exec_checkStart (awake : s.rst.inReset = false) (may : s.checkMayStart) : exec .checkStart s = .next (s.after (startCheck s)) :=
  whenDue_after (test := fun s => s.checkMayStart) awake may

theorem exec_checkRetryEnd {n : Nat} (awake : s.rst.inReset = false) (due : s.filt.check.state = .due)
    (retry : s.filt.check.retry = some n) (long : 600 ≤ n) : exec .checkRetryEnd s = .next (s.after (endCheckRetry s)) :=
  whenDue_after (test := fun s => s.checkRetryOver) awake ⟨due, (reached_iff 600 _).mpr ⟨n, retry, long⟩⟩

/-- A check whose minute is out without its being ready ends in the failure of what it lacks. -/
theorem exec_checkTimeout {n : Nat} (awake : s.rst.inReset = false) (waiting : s.filt.check.state = .waiting)
    (timer : s.filt.check.timer = some n) (long : 60 ≤ n) (notReady : ¬ s.checkReady) :
    exec .checkTimeout s = .next (s.after (endCheck s.checkFailure s)) :=
  whenDue_after (test := fun s => s.checkMinuteOut) awake ⟨waiting, notReady, (reached_iff 60 _).mpr ⟨n, timer, long⟩⟩

end

/-- Settles O43: both requests by their rows in order, and each event row by its own test. -/
theorem removalsAndChecksMoveTheCheck : Obligations.RemovalsAndChecksMoveTheCheck := by
  intro s awake started
  refine ⟨fun slot free => ?remove, fun free => ?check, fun may => exec_checkStart awake may,
    fun n due retry long => exec_checkRetryEnd awake due retry long,
    fun n waiting timer long => ⟨fun slow => ?noLevel, fun running atLevel lost => ?noReading⟩⟩
  case remove =>
    have row := (State.listening.hears ⟨awake, free⟩).filterRemove slot
    simp only [applyRemove_eq, removeCheck_eq] at row
    exact row
  case check => exact (State.listening.hears ⟨awake, free⟩).filterCheck
  case noLevel =>
    have notAtSpeed : ¬ (s.fan.state = .running ∧ s.fan.atLevel = true) := fun atSpeed =>
      slow.elim (fun stopped => stopped atSpeed.1) fun off => nomatch atSpeed.2.symm.trans off
    rw [exec_checkTimeout awake waiting timer long fun ready => notAtSpeed ⟨ready.1, ready.2.1⟩, checkFailure_noLevel notAtSpeed,
      endCheck_eq (by decide)]
  case noReading =>
    rw [exec_checkTimeout awake waiting timer long fun ready => lost ready.2.2, checkFailure_level ⟨running, atLevel⟩,
      endCheck_eq (by decide)]

end Sys2Proof.Machine

/-! FILTER_FIT: the tests of its values, the new record, and the check that follows a fit in the pressure slot (R138, R139, R142). -/

namespace Sys2Proof.Machine

/-! The tests of the values (R138) -/

theorem within_eq_false_iff (lo hi n : Nat) : within lo hi n = false ↔ n < lo ∨ hi < n := by
  rw [within, Bool.and_eq_false_iff, decide_eq_false_iff_not, decide_eq_false_iff_not, not_le, not_le]

theorem all_printable_eq_false_iff (tag : List Byte) :
    tag.all printable = false ↔ ∃ b ∈ tag, b.toNat < 32 ∨ 126 < b.toNat := by
  simp [printable, List.all_eq_false, or_iff_not_imp_left]

theorem fitFault_eq (kind : RatingKind) (p : FitParams) : fitFault kind p =
    if p.rated.toNat = 0 ∨ kind.most < p.rated.toNat then some 2
    else if 100 < p.capture.toNat then some 3
    else if p.riseLimit.toNat ≠ 0 ∧ (p.riseLimit.toNat < 100 ∨ 3000 < p.riseLimit.toNat) then some 4
    else if ∃ b ∈ p.tag, b.toNat < 32 ∨ 126 < b.toNat then some 5
    else if ∃ b ∈ restoredBaseline p.restore, 6000 < b then some 6
    else none := by
  have rated : within 1 kind.most p.rated.toNat = false ↔ p.rated.toNat = 0 ∨ kind.most < p.rated.toNat := by
    rw [within_eq_false_iff, Nat.lt_one_iff]
  have limit := and_congr_right (a := p.riseLimit.toNat ≠ 0) fun _ => within_eq_false_iff 100 3000 p.riseLimit.toNat
  refine if_congr rated rfl (if_congr Iff.rfl rfl (if_congr limit rfl (if_congr (all_printable_eq_false_iff p.tag) rfl ?_)))
  cases restoredBaseline p.restore <;> simp

/-- A request refused with the detail of a fault of its values, and taken without one. -/
def judged (fault : Detail) (h : State) (taken : Taken) : Taken :=
  match fault with
  | some detail => refuse .badValue detail h
  | none => taken

theorem judged_ite {c : Prop} [Decidable c] (detail : Nat) (rest : Detail) (h : State) (taken : Taken) :
    judged (if c then some detail else rest) h taken = if c then refuse .badValue detail h else judged rest h taken := by
  split <;> rfl

/-- FILTER_FIT, test by test. -/
theorem take_filterFit (p : FitParams) (h : State) : take (.filterFit p) h =
    if 12 < p.tag.length then refuse .badLength 0 h
    else if h.link.part ≠ .active then refuse .wrongState 0 h
    else if 2 < p.slot.toNat then refuse .badValue 0 h
    else if h.setup.optSlots.get (slotOfByte p.slot) = false then refuse .notFitted 0 h
    else if 2 < p.ratingKind.toNat then refuse .badValue 1 h
    else if p.rated.toNat = 0 ∨ (ratingOfByte p.ratingKind).most < p.rated.toNat then refuse .badValue 2 h
    else if 100 < p.capture.toNat then refuse .badValue 3 h
    else if p.riseLimit.toNat ≠ 0 ∧ (p.riseLimit.toNat < 100 ∨ 3000 < p.riseLimit.toNat) then refuse .badValue 4 h
    else if ∃ b ∈ p.tag, b.toNat < 32 ∨ 126 < b.toNat then refuse .badValue 5 h
    else if ∃ b ∈ restoredBaseline p.restore, 6000 < b then refuse .badValue 6 h
    else if (h.slot (slotOfByte p.slot)).coverOpened = false then refuse .coverNotOpened 0 h
    else if h.filt.check.state = .waiting ∨ h.filt.check.state = .sampling then refuse .busy 0 h
    else accept (applyFit (slotOfByte p.slot) (ratingOfByte p.ratingKind) p)
      (fun t => slotBytes (slotOfByte p.slot) (t.slot (slotOfByte p.slot))) h := by
  refine if_congr Iff.rfl rfl (if_congr Iff.rfl rfl ?_)
  by_cases noSlot : 2 < p.slot.toNat
  · rw [if_pos noSlot, Slot.ofNum_none noSlot]
  rw [if_neg noSlot, Slot.ofNum_byte noSlot]
  refine if_congr Iff.rfl rfl ?_
  by_cases noKind : 2 < p.ratingKind.toNat
  · rw [if_pos noKind, ratingOf_beyond noKind]
  rw [if_neg noKind, ratingOf_byte noKind]
  change judged (fitFault (ratingOfByte p.ratingKind) p) h _ = _
  rw [fitFault_eq, judged_ite, judged_ite, judged_ite, judged_ite, judged_ite]
  rfl

/-! The new record (R133, R139) -/

/-- A fitted record with the wear that its accounts alone reach. -/
def SlotRec.wornByUse (r : SlotRec) : SlotRec :=
  if r.ratedUnits ≤ r.used then { r with state := .worn, wornReason := some r.ratingKind.reason }
  else if 9 * r.ratedUnits ≤ 10 * r.used then { r with state := .nearWorn }
  else r

/-- Without a measured drop no rise is reached, so that a record just fitted has the wear of its accounts. -/
theorem SlotRec.evaluate_unmeasured (isPressure : Bool) {r : SlotRec} (fitted : r.state = .fitted) (unmeasured : r.latest = none) :
    r.evaluate isPressure = r.wornByUse := by
  have steady : ∀ k, ¬ r.riseReaches isPressure k = true := fun k rises => by
    obtain ⟨-, _, _, -, measured, -⟩ := (r.riseReaches_iff isPressure k).mp rises
    exact nomatch unmeasured.symm.trans measured
  have present : r.state ≠ .empty := by rw [fitted]; decide
  unfold wornByUse
  rcases r.wearReached_cases isPressure with ⟨-, rises⟩ | ⟨wear, -, full⟩ | ⟨wear, -, short, near⟩ | ⟨wear, -, short, far⟩
  · exact absurd rises (steady 2)
  · have full := full.resolve_right (steady 1)
    rw [if_pos full, evaluate_raised present (by rw [wear, fitted]; decide), wear, reasonFor, if_pos full]
  · rw [if_neg (not_or.mp short).1, if_pos near, evaluate_raised present (by rw [wear, fitted]; decide), wear]
    rfl
  · rw [if_neg (not_or.mp short).1, if_neg far, evaluate_kept (.inr (by rw [wear, fitted]))]

/-! The check behind a fit (R139, R142) -/

/-- The check with its count restarted, and due for the fit unless a baseline came with it. -/
def Check.fitted (restored : Bool) (c : Check) : Check :=
  if restored then { c with runCount := 0 }
  else if c.state = .idle then { c with runCount := 0, state := .due, dueCause := some .fit }
  else { c with runCount := 0, retry := none, dueCause := some .fit }

theorem fitCheck_eq (restored : Bool) {s : State} (quiet : ¬ s.checkBusy) :
    fitCheck restored s = s.withCheck (s.filt.check.fitted restored) := by
  unfold fitCheck Check.fitted
  cases restored with
  | true => rfl
  | false =>
    cases state : s.filt.check.state with
    | idle | due => simp [state]; rfl
    | waiting => exact absurd (.inl state) quiet
    | sampling => exact absurd (.inr state) quiet

/-- The part with the filter of `p` in its slot, and the check as it then stands. -/
def State.filterFitted (h : State) (p : FitParams) : State :=
  (h.withSlot (slotOfByte p.slot) (fitRecord (ratingOfByte p.ratingKind) p h.time.uptime).wornByUse).withCheck
    (if slotOfByte p.slot ≠ h.setup.pressureSlot then h.filt.check else h.filt.check.fitted (restoredBaseline p.restore).isSome)

theorem applyFit_eq (p : FitParams) {h : State} (quiet : ¬ h.checkBusy) :
    applyFit (slotOfByte p.slot) (ratingOfByte p.ratingKind) p h = h.filterFitted p := by
  unfold applyFit State.filterFitted
  dsimp only
  rw [SlotRec.evaluate_unmeasured _ rfl rfl]
  by_cases pressure : slotOfByte p.slot = h.setup.pressureSlot
  · rw [if_pos (decide_eq_true pressure), if_neg (not_not_intro pressure)]
    exact fitCheck_eq _ (s := h.setSlot _ _) quiet
  · rw [if_neg (by simpa using pressure), if_pos pressure]; rfl

/-! The request -/

/-- FILTER_FIT, row by row. -/
theorem Hears.filterFit {s h : State} (hears : Hears s h) (p : FitParams) : exec (.filterFit p) s = .next (
    if 12 < p.tag.length then h.declined (.filterFit p) .badLength 0
    else if h.link.part ≠ .active then h.declined (.filterFit p) .wrongState 0
    else if 2 < p.slot.toNat then h.declined (.filterFit p) .badValue 0
    else if h.setup.optSlots.get (slotOfByte p.slot) = false then h.declined (.filterFit p) .notFitted 0
    else if 2 < p.ratingKind.toNat then h.declined (.filterFit p) .badValue 1
    else if p.rated.toNat = 0 ∨ (ratingOfByte p.ratingKind).most < p.rated.toNat then h.declined (.filterFit p) .badValue 2
    else if 100 < p.capture.toNat then h.declined (.filterFit p) .badValue 3
    else if p.riseLimit.toNat ≠ 0 ∧ (p.riseLimit.toNat < 100 ∨ 3000 < p.riseLimit.toNat) then h.declined (.filterFit p) .badValue 4
    else if ∃ b ∈ p.tag, b.toNat < 32 ∨ 126 < b.toNat then h.declined (.filterFit p) .badValue 5
    else if ∃ b ∈ restoredBaseline p.restore, 6000 < b then h.declined (.filterFit p) .badValue 6
    else if (h.slot (slotOfByte p.slot)).coverOpened = false then h.declined (.filterFit p) .coverNotOpened 0
    else if h.filt.check.state = .waiting ∨ h.filt.check.state = .sampling then h.declined (.filterFit p) .busy 0
    else (h.after (h.filterFitted p)).replied (.filterFit p)
      (slotBytes (slotOfByte p.slot) ((h.after (h.filterFitted p)).slot (slotOfByte p.slot)))) := by
  have no {reason : Reason} {detail : Nat} : take (.filterFit p) h = refuse reason detail h →
    exec (.filterFit p) s = .next (h.declined (.filterFit p) reason detail) := hears.refused rfl
  refine exec_cond (take_filterFit p h) no fun row => exec_cond row no fun row => exec_cond row no fun row => exec_cond row no fun row =>
    exec_cond row no fun row => exec_cond row no fun row => exec_cond row no fun row => exec_cond row no fun row =>
    exec_cond row no fun row => exec_cond row no fun row => exec_cond row no fun row => ?_
  by_cases quiet : ¬ h.checkBusy
  · rw [if_neg quiet] at row ⊢
    rw [← applyFit_eq p quiet]
    exact (hears.event (.filterFit p) rfl row nofun :)
  · have busy := not_not.mp quiet
    rw [if_pos busy] at row ⊢
    exact no row

/-- Settles O42: the refusals by their rows in order, and the record, its wear and the check of an accepted fit. -/
theorem filterFitReplacesTheRecord : Obligations.FilterFitReplacesTheRecord := fun p _ listening => listening.hears.filterFit p

end Sys2Proof.Machine

/-! The commands as such: each answers a next state and leaves the queue alone, in reset only the reset rows and the pins act, and an event
row that is not due changes nothing (R153, log entry 9). -/

namespace Sys2Proof.Machine

/-! In reset and outside it (R153) -/

section
variable {i : Instr} {s : State}

/-- What is neither a reset row nor a pin reaches the part only outside reset. -/
theorem exec_eq_live (outside : actsInReset i = false) (s : State) : ∃ f, exec i s = live f s := by
  cases i
  case powerOn | resetNAssert | supplyCut | supplySenseCrossing | cutRelease | resetRelease | inputPinChange => cases outside
  all_goals exact ⟨_, rfl⟩

theorem live_inReset {f : State → State} (inReset : s.rst.inReset = true) : live f s = .next s :=
  congrArg Host.Outcome.next (if_pos inReset)

/-- A change that is none, in reset or not. -/
theorem live_same {f : State → State} (same : f s = s) : live f s = .next s :=
  congrArg Host.Outcome.next (by rw [same, ite_self])

theorem exec_answers (i : Instr) (s : State) : ∃ t, exec i s = .next t := by
  cases outside : actsInReset i with
  | false =>
    obtain ⟨f, taken⟩ := exec_eq_live outside s
    exact ⟨if s.rst.inReset then s else f s, taken⟩
  | true =>
    cases i
    case powerOn | resetNAssert | supplyCut | supplySenseCrossing | cutRelease | resetRelease | inputPinChange => exact ⟨_, rfl⟩
    all_goals cases outside

theorem step_answers (s : State) : Safe s := by
  unfold Safe step
  split
  · exact ⟨s, rfl⟩
  · exact exec_answers _ _

end

/-! The queue -/

theorem move_leaves_pending (c d : Core) (m : Core.Move c d) : d.pending = c.pending := by
  cases m <;> rfl

/-- A step takes one command off the queue, and neither the command nor a tick's counts reach the rest. -/
theorem step_pending {s t : State} (h : step s = .next t) : t.pending = s.pending.tail :=
  step_keeps (P := fun c => c.pending = s.pending.tail) (fun c d m rest => (move_leaves_pending c d m).trans rest) rfl rfl h

/-- A command does what a step does that finds it in front of the queue. -/
theorem exec_eq_step (i : Instr) (s : State) : exec i s = step (s.setPending (i :: s.pending)) := rfl

theorem exec_pending {i : Instr} {s t : State} (h : exec i s = .next t) : t.pending = s.pending :=
  step_pending ((exec_eq_step i s).symm.trans h)

/-- Settles O2: a command acts at once or only outside reset, and answers a next state either way; no move of the core reaches the queue. -/
theorem everyCommandAnswersNext : Obligations.EveryCommandAnswersNext :=
  ⟨⟨exec_answers, step_answers⟩, fun _ _ _ => exec_pending, fun _ _ => step_pending⟩

/-! Rows that are not due (log entry 9) -/

section
variable {i : Instr} {s : State}

/-- A request may come at any time. -/
theorem due_of_asked {r : Request} (row : asked i = some r) : Due i s := by
  cases i <;> trivial

/-- The CHECK byte of a frame, where the frame is not complete before it (R167). -/
theorem receiveCheck_undue {b : Byte} (undue : ¬ Due (.frameComplete b) s) : receiveCheck b s = s := by
  unfold receiveCheck
  split
  next kind len bytes receiver => exact if_neg fun complete => undue ⟨kind, len, bytes, receiver, complete⟩
  · rfl

/-- A LEN byte above 200, where no LEN is awaited or the byte is not above 200 (R167). -/
theorem receiveOverlong_undue {len : Byte} (undue : ¬ Due (.overlong len) s) : receiveOverlong len s = s := by
  unfold receiveOverlong
  split
  next kind receiver => exact if_neg fun long => undue ⟨long, kind, receiver⟩
  · rfl

/-- The end of the gap, while hunting (R167). -/
theorem expireGap_undue (undue : ¬ Due .truncated s) : expireGap s = s := if_pos (not_not.mp undue)

/-- The end of a reply, where none is sent (R169). -/
theorem replySent_undue (undue : ¬ Due .replySent s) : replySent s = s := by
  unfold replySent
  rw [not_not.mp undue]

/-- A part of the tick that is not due. -/
theorem whenTicking_undue {test : State → Prop} [DecidablePred test] {f : State → State} (undue : ¬ (s.time.tested = false ∧ test s)) :
    whenTicking test f s = .next s := whenDue_undue (test := fun s => s.time.tested = false ∧ test s) undue

/-- What its rule does not make due changes nothing. -/
theorem exec_undue (undue : ¬ Due i s) : exec i s = .next s := by
  cases row : asked i with
  | some r => exact absurd (due_of_asked row) undue
  | none =>
    cases i
    case powerOn | resetNAssert | supplyCut | supplySenseCrossing | cutRelease | resetRelease | inputPinChange | tachEdge | byteReceived =>
      exact absurd trivial undue
    case frameComplete => exact live_same (receiveCheck_undue undue)
    case overlong => exact live_same (receiveOverlong_undue undue)
    case truncated => exact live_same (expireGap_undue undue)
    case replySent => exact live_same (replySent_undue undue)
    case softReset | linkFullReset => exact live_same (if_neg undue)
    case jobTick => exact exec_jobTick_undue s undue
    case fanRetry =>
      unfold exec
      exact whenDue_undue fun due => undue (s.fan.retryDue_iff.mp due)
    case stallCountExpiry =>
      unfold exec
      exact whenDue_undue fun due => undue (s.fan.stallsExpire_iff.mp due)
    case periodicDefrostTrigger | lockoutEnd | dryWeakRise | cleanStepDown | carriedStepDown | pumpNoFlowTest | linkSilent =>
      unfold exec
      exact whenTicking_undue undue
    all_goals cases row
    all_goals
      unfold exec
      exact whenDue_undue undue

end

/-- Settles O3: in reset the part is not reached, and each event row tests what its rule asks for. -/
theorem nothingActsInResetOrUndue : Obligations.NothingActsInResetOrUndue := by
  refine ⟨fun i s outside inReset => ?_, fun i s _ undue => exec_undue undue⟩
  obtain ⟨f, taken⟩ := exec_eq_live outside s
  exact taken.trans (live_inReset inReset)

end Sys2Proof.Machine

/-! The sources of a reset (R152, R153, R177). -/

namespace Sys2Proof.Machine

section
variable {s : State} {rst : Resets} {cause : ResetCause}

/-- In reset every output is off and ATTN is released (R153). -/
theorem inReset_outputs (rst : Resets) (s : State) :
    (inReset rst s).rst = { rst with inReset := true } ∧ (inReset rst s).comp.on = false ∧ (inReset rst s).water.pumpOn = false ∧
    (inReset rst s).fanPwm = false ∧ (inReset rst s).clean.pmPwr = false ∧ (inReset rst s).attn = false ∧
    (inReset rst s).scan.converting = none := ⟨rfl, rfl, rfl, rfl, rfl, rfl, rfl⟩

/-- A source begins the reset, with its cause (R153). -/
theorem assertSource_begins (running : rst.inReset = false) :
    assertSource cause rst s = inReset { rst with cause := cause } s := if_neg (ne_true_of_eq_false running)

/-- A source is only noted in a part that is in reset already (R153). -/
theorem assertSource_noted (already : rst.inReset = true) : assertSource cause rst s = { s with rst := rst } := if_pos already

/-- The comparator's fall begins a reset where it was not in CUT (R152). -/
theorem cutSupply_begins (closed : s.rst.cut = false) (running : s.rst.inReset = false) :
    cutSupply s = inReset { s.rst with busHigh := false, cut := true, releasing := false, cause := .supply } s :=
  (if_neg (ne_true_of_eq_false closed)).trans (assertSource_begins running)

/-- In CUT, or in reset, the comparator's fall is only noted (R152). -/
theorem cutSupply_noted (already : s.rst.cut = true ∨ s.rst.inReset = true) :
    cutSupply s = { s with rst := { s.rst with busHigh := false, cut := true, releasing := false } } := by
  unfold cutSupply
  dsimp only
  split
  · rfl
  next outside => exact assertSource_noted (already.resolve_left outside)

/-- At 19.0 V the release timer follows the bus in CUT, and rests outside it (R152). -/
theorem crossSupply_eq (rising : Bool) (s : State) :
    crossSupply rising s = { s with rst := { s.rst with busHigh := rising, releasing := s.rst.cut && rising } } := rfl

theorem awaits_of_answer {a : Answer} (answer : s.link.answer = some a) : s.awaits a.after = true := by
  unfold State.awaits
  rw [answer]
  exact decide_eq_true rfl

/-- The follow-up of RESET FULL asserts the link's source (R177). -/
theorem exec_linkFullReset {a : Answer} (running : s.rst.inReset = false) (answer : s.link.answer = some a) (full : a.after = .fullReset) :
    exec .linkFullReset s = .next (inReset { s.rst with srcLink := true, cause := .linkFull } s) := by
  have awaited : s.awaits .fullReset = true := full ▸ awaits_of_answer answer
  have taken : exec .linkFullReset s = .next (linkFullReset s) :=
    congrArg Host.Outcome.next ((if_neg (ne_true_of_eq_false running)).trans (if_pos awaited))
  exact taken.trans (congrArg Host.Outcome.next (assertSource_begins running))

end

/-- Settles O45: a source that begins a reset leaves the part in reset with its cause, and any other is noted in the record of the resets. -/
theorem sourcesBeginAReset : Obligations.SourcesBeginAReset := by
  intro s down noted
  have begins {i : Instr} {rst : Resets} {t : State} (run : exec i s = .next t) (reset : t = inReset rst s) : down i rst :=
    ⟨_, run.trans (congrArg _ reset), inReset_outputs rst s⟩
  refine ⟨?power, fun running => ?pin, fun already => ?pinNoted, ⟨fun already => ?cutNoted, fun closed running => ?cut⟩,
    fun rising cut => ?crossCut, fun rising closed => ?cross, fun a running answer full => ?link⟩
  case power => exact begins rfl rfl
  case pin => exact begins rfl (assertSource_begins running)
  case pinNoted => exact congrArg Host.Outcome.next (assertSource_noted already)
  case cutNoted => exact congrArg Host.Outcome.next (cutSupply_noted already)
  case cut => exact begins rfl (cutSupply_begins closed running)
  case crossCut => exact congrArg Host.Outcome.next ((crossSupply_eq rising s).trans (by rw [cut, Bool.true_and]))
  case cross => exact congrArg Host.Outcome.next ((crossSupply_eq rising s).trans (by rw [closed, Bool.false_and]))
  case link => exact begins (exec_linkFullReset running answer full) rfl

end Sys2Proof.Machine

/-! The event's frame and the stored conditions (R158). -/

namespace Sys2Proof.Machine

/-- Settles O4: the frame of an event, and what stands when it is over. -/
theorem eventLeavesTheRest : Obligations.EventLeavesTheRest := by
  refine ⟨fun s u => ⟨event_kept _ s, event_upToDate _ s, event_interlocked _ s⟩, fun s u quiet unchanged => ?_, fun s u => event_added _ s⟩
  have whole : s.after u = inIdOrder s u := event_quiet quiet unchanged
  exact ⟨whole, fun noneAdded => whole.trans (inIdOrder_same noneAdded)⟩

/-! The stored conditions: every event ends by handing them on, and what is no event leaves the owners' values and the stored ones alike -/

section
variable {s t : State}

theorem State.upToDate.follows (h : s.upToDate) : s.StoredFollowOwners := fun _ => h

theorem State.StoredFollowOwners.of_inReset (down : s.rst.inReset = true) : s.StoredFollowOwners :=
  fun running => absurd (down.symm.trans running) (by decide)

theorem State.StoredFollowOwners.of_same (h : s.StoredFollowOwners) (reset : t.rst.inReset = s.rst.inReset)
    (stored : t.ev.stored = s.ev.stored) (owners : conditions t = conditions s) : t.StoredFollowOwners := fun running =>
  stored.trans ((h (reset.symm.trans running)).trans owners.symm)

theorem State.StoredFollowOwners.cond {p : Prop} [Decidable p] {a b : State} (yes : p → a.StoredFollowOwners)
    (no : ¬ p → b.StoredFollowOwners) : (if p then a else b).StoredFollowOwners := by
  split
  next holds => exact yes holds
  next fails => exact no fails

/-- Of the link's record the conditions show LINK_SILENT alone. -/
theorem conditions_setLink (s : State) (l : Link) : conditions (s.setLink l) = (conditions s).set 12 l.silent := rfl

theorem State.StoredFollowOwners.setLink (h : s.StoredFollowOwners) {l : Link} (silent : l.silent = s.link.silent) :
    (s.setLink l).StoredFollowOwners :=
  h.of_same rfl rfl (by rw [conditions_setLink, silent]; rfl)

theorem State.StoredFollowOwners.setRst (h : s.StoredFollowOwners) {r : Resets} (reset : r.inReset = s.rst.inReset) :
    (s.setRst r).StoredFollowOwners := h.of_same reset rfl rfl

/-- Of an input's record the conditions show the filtered value alone. -/
theorem State.StoredFollowOwners.setInput (h : s.StoredFollowOwners) (i : InputPin) {x : Input}
    (filtered : x.filtered = (s.water.input i).filtered) : (setInput i x s).StoredFollowOwners := by
  cases i with
  | tankIn | float => exact h.of_same rfl rfl rfl
  | cover =>
    have owners : conditions (Machine.setInput .cover x s) = (conditions s).set 7 x.filtered := rfl
    exact h.of_same rfl rfl (by rw [owners, filtered]; rfl)

theorem event_follows (f : State → State) (s : State) : (event f s).StoredFollowOwners := (event_upToDate f s).follows

/-! Requests -/

theorem Takes.follows {x : Taken} (taken : Takes s x) (h : s.StoredFollowOwners) : x.1.StoredFollowOwners := by
  cases taken with
  | refused | answered => exact h
  | accepted f | ahead f => exact event_follows f s
  | latch _ _ stored => exact h.of_same rfl stored rfl
  | counters => exact h.setLink rfl

theorem takeRequest_follows (r : Request) (h : s.StoredFollowOwners) : (takeRequest r s).StoredFollowOwners :=
  ((take_takes r).follows h).setLink rfl

theorem place_follows (r : Request) (h : s.StoredFollowOwners) : (place r s).StoredFollowOwners :=
  .cond (fun _ => takeRequest_follows r h) fun _ => .cond (fun _ => h.setLink rfl) fun _ => h.setLink rfl

/-- Where LINK_SILENT does not stand, its end is no change of it. -/
theorem clearSilence_follows (h : s.StoredFollowOwners) : (clearSilence s).StoredFollowOwners :=
  .cond (fun _ => event_follows _ s) fun notSilent => h.setLink (eq_false_of_ne_true notSilent).symm

theorem arrive_follows (r : Request) (h : s.StoredFollowOwners) : (arrive r s).StoredFollowOwners :=
  place_follows r (clearSilence_follows h)

/-! The receiver -/

theorem completeFrame_follows (kind len : Byte) (payload : List Byte) (check : Byte) (h : s.StoredFollowOwners) :
    (completeFrame kind len payload check s).StoredFollowOwners :=
  have hunting : (setReceiver .hunting s).StoredFollowOwners := h.setLink rfl
  .cond (fun _ => arrive_follows _ hunting) fun _ => place_follows _ (hunting.setLink rfl)

theorem receiveByte_follows (b : Byte) (h : s.StoredFollowOwners) : (receiveByte b s).StoredFollowOwners := by
  unfold receiveByte
  split
  · exact .cond (fun _ => h.setLink rfl) fun _ => h
  · exact h.setLink rfl
  · exact .cond (fun _ => h.setLink rfl) fun _ => h.setLink rfl
  · exact .cond (fun _ => h.setLink rfl) fun _ => completeFrame_follows _ _ _ _ h

theorem receiveCheck_follows (b : Byte) (h : s.StoredFollowOwners) : (receiveCheck b s).StoredFollowOwners := by
  unfold receiveCheck
  split
  · exact .cond (fun _ => completeFrame_follows _ _ _ _ h) fun _ => h
  · exact h

theorem receiveOverlong_follows (b : Byte) (h : s.StoredFollowOwners) : (receiveOverlong b s).StoredFollowOwners := by
  unfold receiveOverlong
  split
  · exact .cond (fun _ => h.setLink rfl) fun _ => h
  · exact h

theorem expireGap_follows (h : s.StoredFollowOwners) : (expireGap s).StoredFollowOwners :=
  .cond (fun _ => h) fun _ => h.setLink rfl

/-! Resets: on leaving one the stored values are the owners' (R164, R165) -/

theorem assertSource_follows (cause : ResetCause) {r : Resets} (reset : r.inReset = s.rst.inReset) (h : s.StoredFollowOwners) :
    (assertSource cause r s).StoredFollowOwners :=
  .cond (fun _ => h.setRst reset) fun _ => .of_inReset rfl

theorem cutSupply_follows (h : s.StoredFollowOwners) : (cutSupply s).StoredFollowOwners :=
  .cond (fun _ => h.setRst rfl) fun _ => assertSource_follows _ rfl h

theorem setEv_upToDate {e : Events} (stored : e.stored = conditions s) : (s.setEv e).upToDate := stored

theorem crossSupply_follows (rising : Bool) (h : s.StoredFollowOwners) : (crossSupply rising s).StoredFollowOwners := h.setRst rfl

theorem leaveReset_upToDate (r : Resets) (s : State) : (leaveReset r s).upToDate := by
  unfold leaveReset
  exact setEv_upToDate rfl

theorem afterRelease_follows {r : Resets} (reset : r.inReset = s.rst.inReset) (h : s.StoredFollowOwners) :
    (afterRelease r s).StoredFollowOwners :=
  .cond (fun _ => (leaveReset_upToDate r s).follows) fun _ => h.setRst reset

theorem releaseCut_follows (h : s.StoredFollowOwners) : (releaseCut s).StoredFollowOwners :=
  .cond (fun _ => afterRelease_follows rfl h) fun _ => h

theorem deassert_inReset (source : ResetSource) (r : Resets) : (r.deassert source).inReset = r.inReset := by cases source <;> rfl

theorem softReset_upToDate (s : State) : (softReset s).upToDate := by
  unfold softReset
  exact setEv_upToDate rfl

/-! The end of a reply -/

theorem takeHeld_follows (h : s.StoredFollowOwners) : (takeHeld s).StoredFollowOwners := by
  have emptied : (s.setLink { s.link with answer := none, held := none }).StoredFollowOwners := h.setLink rfl
  unfold takeHeld
  dsimp only
  split
  · exact takeRequest_follows _ emptied
  · exact emptied

theorem linkSoftReset_follows (s : State) : (linkSoftReset s).StoredFollowOwners := takeHeld_follows (softReset_upToDate s).follows

theorem linkFullReset_follows (h : s.StoredFollowOwners) : (linkFullReset s).StoredFollowOwners := assertSource_follows _ rfl h

theorem replySent_follows (h : s.StoredFollowOwners) : (replySent s).StoredFollowOwners := by
  unfold replySent
  split
  · exact h
  · split
    · exact takeHeld_follows h
    · exact linkSoftReset_follows s
    · exact linkFullReset_follows h

/-! Commands -/

theorem State.upToDate.setTime (h : s.upToDate) (time : TimeBase) : (s.setTime time).upToDate := h

theorem jobTick_upToDate (s : State) : (jobTick s).upToDate := by
  unfold jobTick closeTick
  exact (inIdOrder_upToDate (event_upToDate _ _)).setTime _

theorem next_follows {u : State} (k : u.StoredFollowOwners) (e : (Host.Outcome.next u : Result) = .next t) : t.StoredFollowOwners := by
  cases e
  exact k

theorem live_follows {f : State → State} (h : s.StoredFollowOwners) (k : (f s).StoredFollowOwners) (e : live f s = .next t) :
    t.StoredFollowOwners := next_follows (.cond (fun _ => h) fun _ => k) e

theorem whenDue_follows {p : State → Prop} {dec : DecidablePred p} {f : State → State} (h : s.StoredFollowOwners)
    (e : whenDue p f s = .next t) : t.StoredFollowOwners :=
  live_follows h (.cond (fun _ => event_follows f s) fun _ => h) e

theorem whenTicking_follows {p : State → Prop} {dec : DecidablePred p} {f : State → State} (h : s.StoredFollowOwners)
    (e : whenTicking p f s = .next t) : t.StoredFollowOwners := whenDue_follows h e

theorem exec_follows (i : Instr) (h : s.StoredFollowOwners) (e : exec i s = .next t) : t.StoredFollowOwners := by
  cases row : asked i with
  | some r => exact live_follows h (arrive_follows r h) ((exec_asked row s).symm.trans e)
  | none =>
    cases i
    case powerOn => exact next_follows (.of_inReset rfl) e
    case resetNAssert => exact next_follows (assertSource_follows .pin (r := { s.rst with srcPin := true }) rfl h) e
    case supplyCut => exact next_follows (cutSupply_follows h) e
    case supplySenseCrossing rising => exact next_follows (crossSupply_follows rising h) e
    case cutRelease => exact next_follows (releaseCut_follows h) e
    case resetRelease source => exact next_follows (afterRelease_follows (deassert_inReset source s.rst) h) e
    case inputPinChange i level =>
      refine next_follows (h.setInput i ?_) e
      split <;> rfl
    case tachEdge => exact live_follows h (event_follows _ s) e
    case jobTick => exact live_follows h (.cond (fun _ => (jobTick_upToDate s).follows) fun _ => h) e
    case frameComplete c => exact live_follows h (receiveCheck_follows c h) e
    case overlong c => exact live_follows h (receiveOverlong_follows c h) e
    case truncated => exact live_follows h (expireGap_follows h) e
    case byteReceived c => exact live_follows h (receiveByte_follows c h) e
    case replySent => exact live_follows h (replySent_follows h) e
    case softReset => exact live_follows h (.cond (fun _ => linkSoftReset_follows s) fun _ => h) e
    case linkFullReset => exact live_follows h (.cond (fun _ => linkFullReset_follows h) fun _ => h) e
    case periodicDefrostTrigger | lockoutEnd | dryWeakRise | cleanStepDown | carriedStepDown | pumpNoFlowTest | linkSilent =>
      unfold exec at e
      exact whenTicking_follows h e
    all_goals cases row
    all_goals
      unfold exec at e
      exact whenDue_follows h e

end

/-- Settles O6: a command hands the conditions on with its event or its reset, or changes neither them nor what is stored. -/
theorem storedConditionsFollowOwners : Obligations.StoredConditionsFollowOwners := by
  intro s t h e
  unfold step at e
  split at e
  · exact next_follows h e
  next c rest _ => exact exec_follows c (s := s.setPending rest) (h.of_same rfl rfl rfl) e

end Sys2Proof.Machine

/-! EVENTS_READ and WATCH_SET (R159, R162). -/

namespace Sys2Proof.Machine

/-! Fields of one byte (R181) -/

theorem field_fits {k n : Nat} (fits : n < 256 ^ k) : field k n = leBytes k n := if_pos fits

theorem field_byte {n : Nat} (fits : n < 256) : field 1 n = [byteOf n] := field_fits fits

/-! EVENTS_READ -/

theorem Edge.field_code (e : Edge) : field 1 e.code = [match e with | .rise => 0#8 | .fall => 1#8 | .once => 2#8] := by
  cases e <;> exact field_byte (by decide)

theorem ResetCause.fieldOpt_code (c : Option ResetCause) : fieldOpt 1 (c.map ResetCause.code) =
    [match c with | none => 255#8 | some .powerOn => 0#8 | some .pin => 1#8 | some .supply => 2#8 | some .linkFull => 3#8
                  | some .linkSoft => 4#8] := by
  cases c with
  | none => rfl
  | some c => cases c <;> exact field_byte (by decide)

/-- The entries of a reply, byte by byte. -/
theorem EventEntry.bytes_eq (e : EventEntry) : e.bytes =
    field 1 e.id ++ [match e.edge with | .rise => 0#8 | .fall => 1#8 | .once => 2#8] ++ field 1 e.count ++
      [match e.cause with | none => 255#8 | some .powerOn => 0#8 | some .pin => 1#8 | some .supply => 2#8 | some .linkFull => 3#8
                          | some .linkSoft => 4#8] := by
  unfold EventEntry.bytes
  rw [Edge.field_code, ResetCause.fieldOpt_code]

/-- The number of entries read, and whether any are left. -/
theorem eventsBytes_eq (l : List EventEntry) : eventsBytes l =
    [byteOf (min 24 l.length), if l.drop 24 = [] then 0#8 else 1#8] ++ (l.take 24).flatMap EventEntry.bytes := by
  have number : field 1 (l.take 24).length = [byteOf (min 24 l.length)] := by
    rw [List.length_take]
    exact field_byte (by omega)
  have more : flagField (decide (24 < l.length)) = [if l.drop 24 = [] then 0#8 else 1#8] := by
    simp only [flagField, decide_eq_true_eq, List.drop_eq_nil_iff, ← not_lt, ite_not]
  rw [eventsBytes, number, more]
  rfl

theorem attn_eq (s : State) : s.attn = (decide (s.rst.inReset = false) && decide (s.ev.list ≠ []) && s.ev.attention) := by
  unfold State.attn
  cases s.rst.inReset <;> cases s.ev.list <;> rfl

theorem take_eventsRead (h : State) :
    take .eventsRead h = ({ h with ev := { h.ev with list := h.ev.list.drop 24 } }, .ok (eventsBytes h.ev.list)) := rfl

/-- Settles O49: the list is cut behind its 24th entry, and the reply carries the part in front. -/
theorem readTakesTheFirstEntries : Obligations.ReadTakesTheFirstEntries := by
  intro s listening h entry rest t
  have read := listening.hears.accepted (i := .eventsRead) rfl (take_eventsRead h) nofun
  have bytes : EventEntry.bytes = entry := funext EventEntry.bytes_eq
  rw [eventsBytes_eq, bytes] at read
  exact ⟨read, (List.take_append_drop 24 h.ev.list).symm, attn_eq t⟩

/-! WATCH_SET: the masks -/

theorem enablesOf_succ (k n : Nat) : enablesOf (k + 1) n = n.testBit 0 :: enablesOf k (n / 2) := by
  simp [enablesOf, List.range_succ_eq_map, Nat.testBit_succ, Function.comp_def]

/-- The mask of the enables that a mask gives to `k` events is the mask below bit `k`. -/
theorem maskOf_enablesOf (k : Nat) : ∀ n : Nat, maskOf (enablesOf k n) = n % 2 ^ k := by
  induction k with
  | zero => intro n; exact (Nat.mod_one n).symm
  | succ k ih =>
    intro n
    rw [enablesOf_succ, maskOf, ih, Nat.testBit_zero, Nat.pow_succ', Nat.mod_mul]
    have bit : n % 2 = 0 ∨ n % 2 = 1 := Nat.mod_two_eq_zero_or_one n
    rcases bit with bit | bit <;> simp [bit]

/-- A mask of the conditions comes back in its three bytes. -/
theorem field_mask {mask : BitVec 24} (fits : mask.toNat < 2 ^ 21) : field 3 (maskOf (enablesOf 21 mask.toNat)) = leBytes 3 mask.toNat := by
  rw [maskOf_enablesOf, Nat.mod_eq_of_lt fits]
  exact field_fits mask.isLt

/-- The enables of the one-shots, with RESET's whatever its mark. -/
theorem onceEnables_eq (once : Byte) : (enablesOf 6 once.toNat).set 0 true = true :: (List.range 5).map fun k => once.getLsbD (k + 1) := rfl

/-- They come back in one byte, with RESET's bit set. -/
theorem field_once {once : Byte} (fits : once.toNat < 2 ^ 6) :
    field 1 (maskOf ((enablesOf 6 once.toNat).set 0 true)) = [once ||| 1#8] := by
  have mask : maskOf ((enablesOf 6 once.toNat).set 0 true) = (once ||| 1#8).toNat := by
    rw [enablesOf_succ, List.set_cons_zero, maskOf, maskOf_enablesOf, BitVec.toNat_or]
    have low : (once.toNat ||| 1) % 2 = 1 := Nat.or_mod_two_eq_one.mpr (.inr rfl)
    have high : (once.toNat ||| 1) / 2 = once.toNat / 2 := (Nat.or_div_two ..).trans (Nat.or_zero _)
    show 1 + 2 * (once.toNat / 2 % 2 ^ 5) = once.toNat ||| 1
    omega
  rw [mask, field_byte (once ||| 1#8).isLt, byteOf, BitVec.ofNat_toNat, BitVec.setWidth_eq]

/-- A byte of at most 1 is a flag. -/
theorem flagField_byte {b : Byte} (flag : ¬ 1 < b.toNat) : flagField (decide (b.toNat = 1)) = [b] := by
  have bit : b = 0#8 ∨ b = 1#8 := by bv_omega
  rcases bit with rfl | rfl <;> rfl

/-- A mask has a bit above the first `k`. -/
theorem shift_ne_zero_iff {w : Nat} (k : Nat) (x : BitVec w) : x >>> k ≠ 0#w ↔ 2 ^ k ≤ x.toNat := by
  rw [ne_eq, ← BitVec.toNat_inj, BitVec.toNat_ushiftRight, Nat.shiftRight_eq_div_pow, BitVec.toNat_ofNat, Nat.zero_mod,
    Nat.div_eq_zero_iff_lt (Nat.two_pow_pos k), not_lt]

/-- The Event Latch with the enables of the masks (R159). -/
theorem applyWatch_eq (rise fall : BitVec 24) (once attention : Byte) (h : State) :
    applyWatch rise.toNat fall.toNat once.toNat (decide (attention.toNat = 1)) h = { h with ev := { h.ev with
      riseEn := (List.range 21).map fun k => rise.getLsbD k, fallEn := (List.range 21).map fun k => fall.getLsbD k,
      onceEn := true :: (List.range 5).map fun k => once.getLsbD (k + 1), attention := decide (attention = 1#8) } } := by
  have flag : decide (attention.toNat = 1) = decide (attention = 1#8) := 
    decide_eq_decide.mpr (BitVec.toNat_inj (y := 1#8))
  rw [flag]
  rfl

/-- The reply to masks that fit (R159, log entry 6). -/
theorem watchBytes_applyWatch {rise fall : BitVec 24} {once attention : Byte} (h : State) (riseFits : rise.toNat < 2 ^ 21)
    (fallFits : fall.toNat < 2 ^ 21) (onceFits : once.toNat < 2 ^ 6) (flag : ¬ 1 < attention.toNat) :
    watchBytes (applyWatch rise.toNat fall.toNat once.toNat (decide (attention.toNat = 1)) h) =
      leBytes 3 rise.toNat ++ leBytes 3 fall.toNat ++ [once ||| 1#8, attention] := by
  simp only [watchBytes, applyWatch, State.setEv_ev, field_mask riseFits, field_mask fallFits, field_once onceFits, flagField_byte flag,
    List.append_assoc, List.singleton_append]

/-- WATCH_SET: the masks by their highest bits, then the attention enable. -/
theorem take_watchSet (rise fall : BitVec 24) (once attention : Byte) (h : State) : take (.watchSet rise fall once attention) h =
    if rise >>> 21 ≠ 0#24 then refuse .badValue 0 h
    else if fall >>> 21 ≠ 0#24 then refuse .badValue 1 h
    else if once >>> 6 ≠ 0#8 then refuse .badValue 2 h
    else if 1 < attention.toNat then refuse .badValue 3 h
    else
      (applyWatch rise.toNat fall.toNat once.toNat (decide (attention.toNat = 1)) h,
        .ok (leBytes 3 rise.toNat ++ leBytes 3 fall.toNat ++ [once ||| 1#8, attention])) := by
  simp only [shift_ne_zero_iff]
  refine ite_congr rfl (fun _ => rfl) fun riseFits => ite_congr rfl (fun _ => rfl) fun fallFits =>
    ite_congr rfl (fun _ => rfl) fun onceFits => ite_congr rfl (fun _ => rfl) fun flag => ?_
  rw [← watchBytes_applyWatch h (not_le.mp riseFits) (not_le.mp fallFits) (not_le.mp onceFits) flag]

/-- Settles O50: the first mask or enable that does not fit refuses the request, and the enables of one that fits are read back whole. -/
theorem watchSetReplacesTheEnables : Obligations.WatchSetReplacesTheEnables := by
  intro rise fall once attention s listening
  have hears := listening.hears
  generalize clearSilence s = h at hears ⊢
  intro h r t
  have no {reason : Reason} {detail : Nat} : take r h = refuse reason detail h →
    exec (.watchSet rise fall once attention) s = .next (h.declined r reason detail) := hears.refused rfl
  refine exec_cond (take_watchSet rise fall once attention h) no fun row => exec_cond row no fun row => exec_cond row no fun row =>
    exec_cond row no fun row => ?_
  rw [applyWatch_eq] at row
  exact hears.accepted rfl row nofun

end Sys2Proof.Machine

/-! Where a request goes: the silence, the two places, and what the request leaves of them (R169, R170, R173). -/

namespace Sys2Proof.Machine

/-! The silence (R173) -/

section
variable {s t : State}

/-- A valid frame reaches the silence alone of the link's record. -/
theorem clearSilence_link (s : State) : (clearSilence s).link = { s.link with silence := 0, silent := false } := by
  unfold clearSilence
  split
  · exact event_link endSilence s
  · rfl

theorem clearSilence_spoken (spoken : s.link.silent = false) : clearSilence s = { s with link := { s.link with silence := 0 } } := by
  unfold clearSilence
  rw [if_neg (ne_true_of_eq_false spoken)]
  unfold endSilence
  rw [← spoken]
  rfl

theorem clearSilence_silent (silent : s.link.silent = true) :
    clearSilence s = s.after { s with link := { s.link with silence := 0, silent := false } } :=
  (if_pos silent).trans (event_after endSilence s)

/-! The two places (R169) -/

theorem place_answers (free : s.link.answer = none) (r : Request) : place r s = takeRequest r s := if_pos free

theorem place_holds (busy : s.link.answer ≠ none) (free : s.link.held = none) (r : Request) :
    place r s = { s with link := { s.link with held := some r } } := (if_neg busy).trans (if_pos free)

theorem place_drops (busy : s.link.answer ≠ none) (full : s.link.held ≠ none) (r : Request) :
    place r s = { s with link := { s.link with overrun := min 65535 (s.link.overrun + 1) } } := (if_neg busy).trans (if_neg full)

/-- A command that acts outside reset only, in a part that is not in reset. -/
theorem live_running {f : State → State} (running : s.rst.inReset = false) : live f s = .next (f s) :=
  congrArg Host.Outcome.next (if_neg (ne_true_of_eq_false running))

/-! What a request leaves of the places -/

/-- The state `t` has the held request of `s`. -/
def SameHeld (s t : State) : Prop := t.link.held = s.link.held

theorem SameHeld.of_link (link : t.link = s.link) : SameHeld s t := (congrArg Link.held link :)

theorem SameHeld.of_unread (unread : t.unread = s.unread) : SameHeld s t := by
  simp only [State.unread, Prod.mk.injEq] at unread
  obtain ⟨-, -, -, -, -, -, link, -⟩ := unread
  exact .of_link link

theorem SameHeld.cond {p : Prop} [Decidable p] {a b : State} (yes : SameHeld s a) (no : SameHeld s b) : SameHeld s (if p then a else b) := by
  split
  · exact yes
  · exact no

theorem SameHeld.trans {u : State} (first : SameHeld s t) (second : SameHeld t u) : SameHeld s u := Eq.trans second first

theorem eachInTurn_sameHeld {f : Channel → State → State} (each : ∀ c s, SameHeld s (f c s)) :
    ∀ (l : List Channel) (s : State), SameHeld s (eachInTurn f l s)
  | [], _ => rfl
  | [c], s => each c s
  | c :: d :: cs, s =>
    have first : SameHeld s (event (f c) s) := (each c s).trans (.of_link (event_link (f c) s))
    first.trans (eachInTurn_sameHeld each (d :: cs) _)

theorem changeChan_sameHeld (c : Channel) (f : Chan → Chan) (s : State) : SameHeld s (changeChan c f s) :=
  .of_unread (s := putChan c (f (s.chan c)) s) (changeChan_unread c f s)

theorem changeClean_sameHeld (f : Cleaning → Cleaning) (s : State) : SameHeld s (changeClean f s) := by
  rw [changeClean_eq]; rfl

/-- The setup items: OPT_DRAIN, the channel items, the particulate items and CHECK_INTERVAL by their operations, and the others each
by its one field. -/
theorem applyItem_sameHeld (id index : Nat) (value : List Byte) (s : State) : SameHeld s (applyItem id index value s) := by
  unfold applyItem
  dsimp only
  split
  case h_2 =>
    unfold applyDrain loseHeld
    dsimp only
    split_ifs <;> rfl
  case h_12 => exact eachInTurn_sameHeld (fun c s => changeChan_sameHeld c _ s) _ s
  case h_13 => exact eachInTurn_sameHeld (fun c s => changeChan_sameHeld c _ s) _ s
  case h_15 => exact changeClean_sameHeld _ (s.setSetup _)
  case h_16 => exact changeClean_sameHeld _ (s.setSetup _)
  case h_17 => exact changeClean_sameHeld _ (s.setSetup _)
  case h_25 => unfold testInterval; dsimp only; split_ifs <;> rfl
  all_goals rfl

theorem applyCleanMode_sameHeld (mode : CleanMode) (level : Nat) (s : State) : SameHeld s (applyCleanMode mode level s) := by
  have on (s : State) : SameHeld s (pmPowerOn s) := changeChan_sameHeld .pm _ (s.setClean _)
  have off (s : State) : SameHeld s (pmPowerOff s) := changeChan_sameHeld .pm _ (s.setClean _)
  cases mode with
  | off => exact .cond rfl ((changeClean_sameHeld _ s).trans (off _))
  | manual => exact (SameHeld.cond (on s) rfl).trans (changeClean_sameHeld _ _)
  | auto => exact .cond rfl ((SameHeld.cond (on s) rfl).trans (changeClean_sameHeld _ _))

theorem applyDryMode_sameHeld (mode : DryMode) (setpoint : Nat) (s : State) : SameHeld s (applyDryMode mode setpoint s) := by
  have mark (m : Bool) (s : State) : SameHeld s (markContext m s) := by
    unfold markContext
    split
    · rfl
    · rfl
    · exact .cond rfl rfl
  have stop (s : State) : SameHeld s (modeOffCycle s) := by
    unfold modeOffCycle
    split
    · exact .cond rfl rfl
    all_goals rfl
  have loss (s : State) : SameHeld s (targetLossCycle s) := .cond (.cond rfl rfl) rfl
  refine .cond (mark _ s) ?_
  dsimp only
  have stored : SameHeld s (storeMode mode setpoint s) := .cond rfl rfl
  refine stored.trans ?_
  generalize storeMode mode setpoint s = u
  split
  · exact .cond rfl (.cond (stop u) (.cond (loss u) rfl))
  · exact mark _ u
  · exact mark _ u

theorem endCheck_sameHeld (result : CheckResult) (s : State) : SameHeld s (endCheck result s) := .of_unread (endCheck_unread result s)

theorem endPump_sameHeld (result : PumpResult) (s : State) : SameHeld s (endPump result s) := .of_unread (endPump_unread result s)

theorem endServiceRun_sameHeld (s : State) : SameHeld s (endServiceRun s) := .cond rfl rfl

theorem clearFan_sameHeld (s : State) : SameHeld s (clearFan s) := by
  rw [clearFan_eq]; rfl

theorem fitCheck_sameHeld (restored : Bool) (s : State) : SameHeld s (fitCheck restored s) :=
  .cond rfl (.cond rfl (.cond rfl rfl))

theorem applyFit_sameHeld (n : Slot) (kind : RatingKind) (p : FitParams) (s : State) : SameHeld s (applyFit n kind p s) :=
  .cond (fitCheck_sameHeld _ (s.setSlot n _)) rfl

theorem removeCheck_sameHeld (s : State) : SameHeld s (removeCheck s) :=
  .cond (endCheck_sameHeld .removed (s.setCheck _)) (.cond rfl rfl)

theorem applyRemove_sameHeld (n : Slot) (s : State) : SameHeld s (applyRemove n s) :=
  .cond rfl (.cond (removeCheck_sameHeld (s.setSlot n _)) rfl)

theorem requestCheck_sameHeld (s : State) : SameHeld s (requestCheck s) := .cond rfl rfl

theorem applySubst_sameHeld (c : Channel) (kind : SubstKind) (next : Int) (s : State) : SameHeld s (applySubst c kind next s) :=
  changeChan_sameHeld c _ (s.setSubst c _)

theorem clearSubst_sameHeld (c : Channel) (s : State) : SameHeld s (clearSubst c s) :=
  .cond (changeChan_sameHeld c _ (s.setSubst c none)) rfl

theorem startFanRun_sameHeld (level duration : Nat) (c : Option Channel) (s : State) : SameHeld s (startFanRun level duration c s) := by
  cases c <;> rfl

theorem startCompressorRun_sameHeld (duration : Nat) (s : State) : SameHeld s (startCompressorRun duration s) := rfl

theorem startPump_sameHeld (kind : PumpKind) (s : State) : SameHeld s (startPump kind s) := rfl

theorem startPumpRun_sameHeld (s : State) : SameHeld s (startPumpRun s) := startPump_sameHeld .service (s.setServ _)

theorem cancelPump_sameHeld (s : State) : SameHeld s (cancelPump s) := .cond (endPump_sameHeld .cancelled s) rfl

theorem applyBoost_sameHeld (level duration : Nat) (s : State) : SameHeld s (applyBoost level duration s) := .cond rfl rfl

theorem stopService_sameHeld (s : State) : SameHeld s (stopService s) := by
  unfold stopService
  split
  · rfl
  · split
    · exact endServiceRun_sameHeld (releaseClaim .service (releaseRow .service s))
    · exact endServiceRun_sameHeld s
    · exact .cond (endPump_sameHeld .cancelled s) (endServiceRun_sameHeld s)

/-! What a taken request leaves of the places -/

/-- A request taken on `s` leaves the held place as it is. -/
def LeavesHeld (s : State) (x : Taken) : Prop := SameHeld s x.1

theorem LeavesHeld.refused (reason : Reason) (detail : Nat) : LeavesHeld s (refuse reason detail s) := rfl

theorem LeavesHeld.answered (payload : List Byte) : LeavesHeld s (answerWith payload s) := rfl

theorem LeavesHeld.accepted {f : State → State} (change : SameHeld s (f s)) (payload : State → List Byte) :
    LeavesHeld s (accept f payload s) := change.trans (.of_link (event_link f s))

theorem LeavesHeld.ahead {f : State → State} (change : SameHeld s (f s)) (payload : State → List Byte) :
    LeavesHeld s (acceptAhead f payload s) := change.trans (.of_link (event_link f s))

theorem LeavesHeld.cond {p : Prop} [Decidable p] {a b : Taken} (yes : LeavesHeld s a) (no : LeavesHeld s b) :
    LeavesHeld s (if p then a else b) := by
  split
  · exact yes
  · exact no

theorem takeSetupSet_leavesHeld (item index : Byte) (value : List Byte) : LeavesHeld s (takeSetupSet item index value s) := by
  refine .cond (.refused _ _) (.cond (.refused _ _) (.cond (.refused _ _) ?_))
  split
  · exact .refused _ _
  · exact .accepted (applyItem_sameHeld _ _ value s) _

theorem takeCleanMode_leavesHeld (mode level : Byte) : LeavesHeld s (takeCleanMode mode level s) := by
  refine .cond (.refused _ _) ?_
  split
  · exact .refused _ _
  · exact .cond (.refused _ _) (.accepted (applyCleanMode_sameHeld _ _ s) _)

theorem takeDryMode_leavesHeld (mode setpoint : Byte) : LeavesHeld s (takeDryMode mode setpoint s) := by
  refine .cond (.refused _ _) (.cond (.refused _ _) ?_)
  split
  · exact .refused _ _
  · exact .cond (.refused _ _) (.accepted (applyDryMode_sameHeld _ _ s) _)

theorem takeFaultClear_leavesHeld (target channel : Byte) : LeavesHeld s (takeFaultClear target channel s) := by
  unfold takeFaultClear
  dsimp only
  split
  · exact .accepted (clearFan_sameHeld s) _
  · exact .accepted (f := clearCompressor) rfl _
  · exact .accepted (f := clearPump) rfl _
  · rfl
  · exact .cond (.refused _ _) (.accepted (eachInTurn_sameHeld (fun c s => changeChan_sameHeld c _ s) _ s) _)
  · exact .refused _ _

theorem takeFilterFit_leavesHeld (p : FitParams) : LeavesHeld s (takeFilterFit p s) := by
  refine .cond (.refused _ _) (.cond (.refused _ _) ?_)
  split
  · exact .refused _ _
  · refine .cond (.refused _ _) ?_
    split
    · exact .refused _ _
    · split
      · exact .refused _ _
      · exact .cond (.refused _ _) (.cond (.refused _ _) (.accepted (applyFit_sameHeld _ _ p s) _))

theorem takeFilterRemove_leavesHeld (slot : Byte) : LeavesHeld s (takeFilterRemove slot s) := by
  refine .cond (.refused _ _) ?_
  split
  · exact .refused _ _
  · exact .cond (.refused _ _) (.accepted (applyRemove_sameHeld _ s) _)

/-- The start conditions of a pump run, which PUMP_RUN and SERVICE_RUN PUMP test alike (R128, R186). -/
theorem LeavesHeld.pump {a b c d e : Prop} [Decidable a] [Decidable b] [Decidable c] [Decidable d] [Decidable e] {x : Taken}
    (start : LeavesHeld s x) :
    LeavesHeld s (if a then refuse .notFitted 0 s else if b then refuse .faultLatched 0 s else if c then refuse .busy 0 s
      else if d then refuse .wrongState 1 s else if e then refuse .wrongState 2 s else x) :=
  .cond (.refused _ _) (.cond (.refused _ _) (.cond (.refused _ _) (.cond (.refused _ _) (.cond (.refused _ _) start))))

theorem takeSubstSet_leavesHeld (channel kind : Byte) (params : List Byte) : LeavesHeld s (takeSubstSet channel kind params s) := by
  unfold takeSubstSet
  split
  · exact .refused _ _
  · refine .cond (.refused _ _) (.cond (.cond (.refused _ _) (.cond (.refused _ _) (.accepted (applySubst_sameHeld _ _ _ s) _)))
      (.cond (.refused _ _) ?_))
    dsimp only
    split
    · exact .refused _ _
    · exact .accepted (applySubst_sameHeld _ _ _ s) _

theorem takeServiceRun_leavesHeld (kind : Byte) (params : List Byte) : LeavesHeld s (takeServiceRun kind params s) := by
  refine .cond (.refused _ _) (.cond (.refused _ _) (.cond (.refused _ _) (.cond (.refused _ _) ?_)))
  split
  · exact .cond (.refused _ _) (.cond (.refused _ _) (.cond (.refused _ _) (.cond (.refused _ _)
      (.accepted (startFanRun_sameHeld _ _ _ s) _))))
  · exact .cond (.refused _ _) (.cond (.refused _ _) (.cond (.refused _ _) (.accepted (startCompressorRun_sameHeld _ s) _)))
  · exact .pump (.accepted (startPumpRun_sameHeld s) _)

/-- No request reaches the held place: its own effect does not, and what follows in the event does not (R169). -/
theorem take_leavesHeld (r : Request) : LeavesHeld s (take r s) := by
  cases r with
  | setupSet item index value => exact takeSetupSet_leavesHeld item index value
  | cleanMode mode level => exact takeCleanMode_leavesHeld mode level
  | dryMode mode setpoint => exact takeDryMode_leavesHeld mode setpoint
  | faultClear target channel => exact takeFaultClear_leavesHeld target channel
  | filterFit p => exact takeFilterFit_leavesHeld p
  | filterRemove slot => exact takeFilterRemove_leavesHeld slot
  | substSet channel kind params => exact takeSubstSet_leavesHeld channel kind params
  | serviceRun kind params => exact takeServiceRun_leavesHeld kind params
  | setupGet item index =>
    refine .cond (.refused _ _) ?_
    split
    · exact .refused _ _
    · exact .answered _
  | start =>
    refine .cond (.refused _ _) ?_
    split
    · exact .refused _ _
    · exact .accepted (f := becomeActive) rfl _
  | channelGet channel =>
    change LeavesHeld s (takeChannelGet channel s)
    unfold takeChannelGet
    split
    · exact .refused _ _
    · exact .answered _
  | filterGet slot =>
    change LeavesHeld s (takeFilterGet slot s)
    unfold takeFilterGet
    split
    · exact .refused _ _
    · exact .answered _
  | ident => exact .answered _
  | reset scope => exact .cond (.refused _ _) (.cond (.refused _ _) (.answered _))
  | status page => exact .cond (.refused _ _) (.answered _)
  | fanCeiling level => exact .cond (.refused _ _) (.cond (.refused _ _) (.accepted (f := setHostCeiling level.toNat) rfl _))
  | fanBoost level duration =>
    exact .cond (.refused _ _) (.cond (.refused _ _) (.cond (.refused _ _) (.accepted (applyBoost_sameHeld _ _ s) _)))
  | eventsRead => rfl
  | watchSet rise fall once attention =>
    exact .cond (.refused _ _) (.cond (.refused _ _) (.cond (.refused _ _) (.cond (.refused _ _) rfl)))
  | filterCheck => exact .cond (.refused _ _) (.cond (.refused _ _) (.cond (.refused _ _) (.ahead (requestCheck_sameHeld s) _)))
  | pumpRun => exact .cond (.refused _ _) (.pump (.accepted (startPump_sameHeld .host s) _))
  | pumpCancel => exact .cond (.refused _ _) (.cond (.refused _ _) (.accepted (cancelPump_sameHeld s) _))
  | substClear channel => exact .cond (.refused _ _) (.accepted (eachInTurn_sameHeld clearSubst_sameHeld _ s) _)
  | serviceStop => exact .cond (.refused _ _) (.accepted (stopService_sameHeld s) _)
  | refusedByLink kind reason => exact .refused _ _

/-! The reply that a taken request earns (R170) -/

/-- A refused request changes nothing (R170). -/
theorem Takes.of_no {x : Taken} {reason : Reason} {detail : Nat} (taken : Takes s x) (no : x.2 = .no reason detail) :
    x = refuse reason detail s := by
  cases taken with
  | refused a b => cases no; rfl
  | answered | accepted | ahead | latch | counters => cases no

theorem frameOf_take_two (kind : Byte) (payload : List Byte) : (frameOf kind payload).take 2 = [195#8, kind] := rfl

/-- The request in the answer place, with what stood in the held place, and its reply: a refusal of a part left as it is, or a reply of the
request's own KIND plus 0x80 (R169, R170). -/
theorem takeRequest_answer (r : Request) (s : State) : ∃ a, (takeRequest r s).link.answer = some a ∧ a.request = r ∧
    (takeRequest r s).link.held = s.link.held ∧
    (a.reply.take 2 = [195#8, 127#8] ∧ takeRequest r s = s.answering r a.reply .nothing ∨ a.reply.take 2 = [195#8, kindOf r + 128#8]) := by
  refine ⟨_, rfl, rfl, take_leavesHeld r, ?_⟩
  dsimp only
  cases reply : (take r s).2 with
  | ok payload => exact .inr (frameOf_take_two _ payload)
  | no reason detail => exact .inl ⟨frameOf_take_two _ _, refused ((take_takes r).of_no reply)⟩

end

/-- Settles O51: the valid frame ends the silence, the two places decide, and a taken request is refused or answered. -/
theorem requestsFindTheirPlace : Obligations.RequestsFindTheirPlace := by
  intro i r s row running h
  have link : h.link = { s.link with silence := 0, silent := false } := clearSilence_link s
  have answer : h.link.answer = s.link.answer := (congrArg Link.answer link :)
  have held : h.link.held = s.link.held := (congrArg Link.held link :)
  have arrives : exec i s = .next (place r h) := (exec_asked row s).trans (live_running running)
  refine ⟨link, clearSilence_spoken, clearSilence_silent, fun busy free => ?holds, fun busy full => ?drops, fun free => ?answers⟩
  case holds => rw [arrives, place_holds (answer ▸ busy) (held ▸ free)]
  case drops => rw [arrives, place_drops (answer ▸ busy) (held ▸ full)]
  case answers =>
    obtain ⟨a, answered, request, kept, reply⟩ := takeRequest_answer r h
    rw [arrives, place_answers (answer ▸ free)]
    exact ⟨_, a, rfl, answered, request, kept.trans held, reply⟩

end Sys2Proof.Machine

/-! The receiver byte by byte, and the tick that ends the silence (R167 to R169, R173). -/

namespace Sys2Proof.Machine

/-! The receiver (R167) -/

section
variable {s : State} {kind len : Byte} {bytes : List Byte}

theorem receiveByte_hunting (hunting : s.link.receiver = .hunting) (b : Byte) :
    receiveByte b s = if b = 195#8 then setReceiver .kind s else s := by
  unfold receiveByte
  rw [hunting]

theorem receiveByte_kind (awaits : s.link.receiver = .kind) (b : Byte) : receiveByte b s = setReceiver (.len b) s := by
  unfold receiveByte
  rw [awaits]

theorem receiveByte_len (awaits : s.link.receiver = .len kind) (b : Byte) :
    receiveByte b s = if 200 < b.toNat then discardOverlong s else setReceiver (.payload kind b []) s := by
  unfold receiveByte
  rw [awaits]

theorem receiveByte_payload (inside : s.link.receiver = .payload kind len bytes) (b : Byte) : receiveByte b s =
    if bytes.length < len.toNat then setReceiver (.payload kind len (bytes ++ [b])) s else completeFrame kind len bytes b s := by
  unfold receiveByte
  rw [inside]

theorem receiveOverlong_len (awaits : s.link.receiver = .len kind) {b : Byte} (long : 200 < b.toNat) :
    receiveOverlong b s = discardOverlong s := by
  unfold receiveOverlong
  rw [awaits]
  exact if_pos long

theorem receiveCheck_payload (inside : s.link.receiver = .payload kind len bytes) (complete : bytes.length = len.toNat) (b : Byte) :
    receiveCheck b s = completeFrame kind len bytes b s := by
  unfold receiveCheck
  rw [inside]
  exact if_pos complete

theorem discardOverlong_eq (s : State) : discardOverlong s =
    { s with link := { s.link with receiver := .hunting, overlong := min 65535 (s.link.overlong + 1) } } := rfl

theorem expireGap_inside (inside : s.link.receiver ≠ .hunting) : expireGap s =
    { s with link := { s.link with receiver := .hunting, truncated := min 65535 (s.link.truncated + 1) } } := if_neg inside

/-! The check of a frame (R168) -/

theorem completeFrame_good {check : Byte} (good : check = crc8 (kind :: len :: bytes)) (s : State) :
    completeFrame kind len bytes check s = arrive (parse kind bytes) (setReceiver .hunting s) := if_pos good

/-- A frame at fault is counted, and a request that the link refuses takes its place. -/
theorem completeFrame_bad {check : Byte} (bad : check ≠ crc8 (kind :: len :: bytes)) (s : State) :
    completeFrame kind len bytes check s = place (.refusedByLink 0#8 .frameError)
      { s with link := { s.link with receiver := .hunting, badCheck := min 65535 (s.link.badCheck + 1) } } := if_neg bad

theorem takeRequest_refusedByLink (kind : Byte) (reason : Reason) (s : State) :
    takeRequest (.refusedByLink kind reason) s = s.declined (.refusedByLink kind reason) reason 0 := refused rfl

end

/-- Settles O57: each byte by the state of the receiver, the completed frame by its check, and the tick that ends the silence. -/
theorem receiverFollowsTheFrame : Obligations.ReceiverFollowsTheFrame := by
  intro b s running rx got
  have received : got = .next (receiveByte b s) := live_running running
  have completes {kind len : Byte} {bytes : List Byte} (inside : s.link.receiver = .payload kind len bytes)
      (complete : bytes.length = len.toNat) : got = .next (completeFrame kind len bytes b s) := by
    rw [received, receiveByte_payload inside, if_neg (not_lt.mpr complete.ge)]
  refine ⟨fun hunting => ?hunting, fun awaits => ?kind, fun kind awaits => ⟨fun fits => ?len, fun long => ?long⟩,
    fun kind len bytes inside => ⟨fun short => ?payload, fun complete => ⟨?check, fun good => ?good, fun bad => ?bad⟩⟩,
    fun inside => ?gap, fun untested set spoken ended => ?silence, by decide +kernel⟩
  case hunting => rw [received, receiveByte_hunting hunting]; rfl
  case kind => rw [received, receiveByte_kind awaits]; rfl
  case len => rw [received, receiveByte_len awaits, if_neg (not_lt.mpr fits)]; rfl
  case long =>
    refine ⟨?_, (live_running running).trans ?_⟩
    · rw [received, receiveByte_len awaits, if_pos long, discardOverlong_eq]
    · rw [receiveOverlong_len awaits long, discardOverlong_eq]
  case payload => rw [received, receiveByte_payload inside, if_pos short]; rfl
  case check =>
    refine (completes inside complete).trans (Eq.symm ((live_running running).trans ?_))
    rw [receiveCheck_payload inside complete]
  case good => rw [completes inside complete, completeFrame_good good]; rfl
  case bad =>
    intro t refusal
    have placed : got = .next (place refusal t) :=
      (completes inside complete).trans (congrArg Host.Outcome.next (completeFrame_bad bad s))
    refine ⟨fun free => ?_, fun busy free => ?_, fun busy full => ?_⟩
    · rw [placed, place_answers (s := t) free, takeRequest_refusedByLink]
    · rw [placed, place_holds (s := t) busy free]
    · rw [placed, place_drops (s := t) busy full]
  case gap => exact (live_running running).trans (by rw [expireGap_inside inside])
  case silence =>
    exact (whenTicking_after (test := fun s => s.silenceOver) running untested ⟨set, spoken, ended⟩ :)

end Sys2Proof.Machine

/-! Every request row is carried whole by its frame (R167 to R171, R181). -/

namespace Sys2Proof.Machine

/-! Payloads (R171, R181) -/

/-- The bytes of a number spell it, as far as they reach. -/
theorem leValue_leBytes (k n : Nat) : leValue (leBytes k n) = n % 256 ^ k := by
  induction k generalizing n with
  | zero => rw [pow_zero, Nat.mod_one]; rfl
  | succ k ih => rw [leBytes, leValue, ih, byteOf, BitVec.toNat_ofNat, pow_succ' 256 k, Nat.mod_mul]

/-- A field of whole bytes is read back. -/
theorem ofNat_leValue_leBytes {k w : Nat} (width : 256 ^ k = 2 ^ w) (x : BitVec w) : BitVec.ofNat w (leValue (leBytes k x.toNat)) = x := by
  rw [leValue_leBytes, width, Nat.mod_eq_of_lt x.isLt, BitVec.ofNat_toNat, BitVec.setWidth_eq]

theorem quadBytes_read (q : Quad) : BitVec.ofNat 32 (leValue (quadBytes q)) = q := ofNat_leValue_leBytes (by decide) q

theorem halfBytes_read (q : Half) : BitVec.ofNat 16 (leValue (halfBytes q)) = q := ofNat_leValue_leBytes (by decide) q

theorem parseBoost_payload (kind level : Byte) (duration : Half) :
    parseBoost kind (level :: halfBytes duration) = .fanBoost level duration :=
  congrArg (Request.fanBoost level) (halfBytes_read duration)

theorem parseWatch_payload (kind : Byte) (rise fall : BitVec 24) (once attention : Byte) :
    parseWatch kind (leBytes 3 rise.toNat ++ leBytes 3 fall.toNat ++ [once, attention]) = .watchSet rise fall once attention :=
  congrArg₂ (fun rise fall => Request.watchSet rise fall once attention) (ofNat_leValue_leBytes (k := 3) (by decide) rise)
    (ofNat_leValue_leBytes (k := 3) (by decide) fall)

/-- The restore block of FILTER_FIT by its marker. -/
theorem parseRestore_restoreBytes (restore : Restore) : parseRestore (restoreBytes restore) = some restore := by
  cases restore with
  | absent => rfl
  | accounts load volume seconds =>
    change some (Restore.accounts (BitVec.ofNat 32 (leValue (quadBytes load))) (BitVec.ofNat 32 (leValue (quadBytes volume)))
      (BitVec.ofNat 32 (leValue (quadBytes seconds)))) = _
    simp only [quadBytes_read]
  | accountsAndBaseline load volume seconds baseline =>
    change some (Restore.accountsAndBaseline (BitVec.ofNat 32 (leValue (quadBytes load))) (BitVec.ofNat 32 (leValue (quadBytes volume)))
      (BitVec.ofNat 32 (leValue (quadBytes seconds))) (BitVec.ofNat 16 (leValue (halfBytes baseline)))) = _
    simp only [quadBytes_read, halfBytes_read]

theorem restoreBytes_length (restore : Restore) : 0 < (restoreBytes restore).length ∧ (restoreBytes restore).length ≤ 15 := by
  cases restore <;> simp [restoreBytes, quadBytes, halfBytes]

theorem byteOf_toNat {n : Nat} (fits : n < 256) : (byteOf n).toNat = n := by
  rw [byteOf, BitVec.toNat_ofNat, Nat.mod_eq_of_lt fits]

/-- FILTER_FIT: the tag length tells the tag from the restore block. -/
theorem parseFit_payload (kind : Byte) {p : FitParams} (tag : p.tag.length ≤ 12) :
    parseFit kind (payloadOf (.filterFit p)) = .filterFit p := by
  have length : (byteOf p.tag.length).toNat = p.tag.length := byteOf_toNat (by omega)
  have rest := (restoreBytes_length p.restore).1
  change (if 12 < (byteOf p.tag.length).toNat ∨ (p.tag ++ restoreBytes p.restore).length ≤ (byteOf p.tag.length).toNat then _
    else match parseRestore ((p.tag ++ restoreBytes p.restore).drop (byteOf p.tag.length).toNat) with
      | none => _
      | some restore => Request.filterFit { p with
          rated := BitVec.ofNat 32 (leValue (quadBytes p.rated)), riseLimit := BitVec.ofNat 16 (leValue (halfBytes p.riseLimit)),
          tag := (p.tag ++ restoreBytes p.restore).take (byteOf p.tag.length).toNat, restore := restore }) = _
  rw [length, if_neg (by rw [List.length_append]; omega), List.drop_left, List.take_left, parseRestore_restoreBytes, quadBytes_read,
    halfBytes_read]

/-- A row's request is read back from the payload that carries it (R171). -/
theorem parse_payloadOf {i : Instr} {r : Request} (row : asked i = some r) (fits : i.wellFormed = true) :
    parse (kindOf r) (payloadOf r) = r := by
  cases i <;> cases row
  case fanBoost level duration => exact parseBoost_payload 19#8 level duration
  case watchSet rise fall once attention => exact parseWatch_payload 35#8 rise fall once attention
  case filterFit p => exact parseFit_payload 48#8 (of_decide_eq_true fits)
  all_goals rfl

/-- A row's payload fits LEN (R167). -/
theorem payloadOf_length {i : Instr} {r : Request} (row : asked i = some r) (fits : i.wellFormed = true) : (payloadOf r).length ≤ 200 := by
  cases i <;> cases row
  case filterFit p =>
    have tag : p.tag.length ≤ 12 := of_decide_eq_true fits
    have rest := (restoreBytes_length p.restore).2
    simp only [payloadOf, quadBytes, halfBytes, List.length_append, List.length_cons, List.length_nil, leBytes_length]
    omega
  case setupSet item index value => exact Nat.add_le_add_right (of_decide_eq_true fits) 2
  case substSet channel kind params => exact Nat.add_le_add_right (of_decide_eq_true fits) 2
  case serviceRunFan | serviceRunCompressor | serviceRunPump => exact Nat.add_le_add_right (of_decide_eq_true fits) 1
  all_goals exact Nat.le_of_ble_eq_true rfl

/-! Frames (R167, R168) -/

section
variable {s : State} {kind len : Byte}

theorem setReceiver_setReceiver (a b : Receiver) (s : State) : setReceiver a (setReceiver b s) = setReceiver a s := rfl

theorem setReceiver_same {r : Receiver} (same : s.link.receiver = r) : setReceiver r s = s := by
  subst same; rfl

/-- The first byte of several. -/
theorem fed_cons (running : s.rst.inReset = false) (b : Byte) (bs : List Byte) : fed (b :: bs) s = fed bs (receiveByte b s) := by
  have received : exec (.byteReceived b) s = .next (receiveByte b s) := live_running running
  rw [fed, received]

/-- A byte inside a frame. -/
theorem fed_receiving (running : s.rst.inReset = false) (r : Receiver) (b : Byte) (bs : List Byte) :
    fed (b :: bs) (setReceiver r s) = fed bs (receiveByte b (setReceiver r s)) := fed_cons (s := setReceiver r s) running b bs

/-- Payload bytes are gathered up to LEN. -/
theorem fed_payload (running : s.rst.inReset = false) (rest : List Byte) : ∀ (pre bytes : List Byte),
    pre.length + bytes.length ≤ len.toNat →
    fed (bytes ++ rest) (setReceiver (.payload kind len pre) s) = fed rest (setReceiver (.payload kind len (pre ++ bytes)) s)
  | pre, [], _ => by rw [List.append_nil, List.nil_append]
  | pre, b :: bs, fits => by
    rw [List.length_cons] at fits
    rw [List.cons_append, fed_receiving running, receiveByte_payload rfl, if_pos (by omega), setReceiver_setReceiver,
      fed_payload running rest (pre ++ [b]) bs (by rw [List.length_append, List.length_singleton]; omega), List.append_assoc,
      List.singleton_append]

/-- A whole frame, SYNC to CHECK, is the arrival of what its payload spells (R167, R168). -/
theorem fed_frameOf (running : s.rst.inReset = false) (hunting : s.link.receiver = .hunting) {payload : List Byte}
    (fits : payload.length ≤ 200) : fed (frameOf kind payload) s = .next (arrive (parse kind payload) s) := by
  have len : (byteOf payload.length).toNat = payload.length := byteOf_toNat (by omega)
  unfold frameOf
  dsimp only
  rw [fed_cons running, receiveByte_hunting hunting, if_pos rfl, List.cons_append, fed_receiving running, receiveByte_kind rfl,
    setReceiver_setReceiver, List.cons_append, fed_receiving running, receiveByte_len rfl, if_neg (by omega), setReceiver_setReceiver,
    fed_payload running _ _ _ (by rw [len, List.length_nil]; omega), List.nil_append, fed_receiving running,
    receiveByte_payload rfl, if_neg (by omega), completeFrame_good rfl, setReceiver_setReceiver, setReceiver_same hunting]
  rfl

end

/-- Settles O58: the payload is read back, and the frame's bytes end in the arrival of the request that it spells. -/
theorem framesCarryRequestsWhole : Obligations.FramesCarryRequestsWhole := by
  intro i r s row fits running hunting
  have length := payloadOf_length row fits
  have back := parse_payloadOf row fits
  refine ⟨length, back, ?_⟩
  rw [fed_frameOf running hunting length, back, exec_asked row, live_running running]

end Sys2Proof.Machine

/-! SETUP_SET in the order of its rule (R170, R174, R176). -/

namespace Sys2Proof.Machine

theorem judged_none (h : State) (taken : Taken) : judged none h taken = taken := rfl

/-- SETUP_SET, test by test. -/
theorem take_setupSet (item index : Byte) (value : List Byte) (h : State) : take (.setupSet item index value) h =
    if ¬ ((1 ≤ item.toNat ∧ item.toNat ≤ 10) ∨ (16 ≤ item.toNat ∧ item.toNat ≤ 30)) then refuse .badValue 255 h
    else if itemLength item.toNat value.length = false then refuse .badLength 0 h
    else if item.toNat ≤ 10 ∧ h.link.part = .active then refuse .wrongState 0 h
    else judged (itemFault item.toNat index.toNat value) h
      (accept (applyItem item.toNat index.toNat value) (fun t => item :: index :: itemValue item.toNat index.toNat t) h) := by
  have fixed : itemFixed item.toNat = true ↔ item.toNat ≤ 10 := decide_eq_true_iff
  exact if_congr (itemKnown_false_iff _) rfl (if_congr Iff.rfl rfl (if_congr (and_congr_left' fixed) rfl rfl))

/-- SETUP_SET, row by row. -/
theorem Hears.setupSet {s h : State} (hears : Hears s h) (item index : Byte) (value : List Byte) :
    exec (.setupSet item index value) s = .next (
      if ¬ ((1 ≤ item.toNat ∧ item.toNat ≤ 10) ∨ (16 ≤ item.toNat ∧ item.toNat ≤ 30)) then
        h.declined (.setupSet item index value) .badValue 255
      else if itemLength item.toNat value.length = false then h.declined (.setupSet item index value) .badLength 0
      else if item.toNat ≤ 10 ∧ h.link.part = .active then h.declined (.setupSet item index value) .wrongState 0
      else match itemFault item.toNat index.toNat value with
        | some d => h.declined (.setupSet item index value) .badValue d
        | none =>
          (h.after (applyItem item.toNat index.toNat value h)).replied (.setupSet item index value)
            (item :: index :: itemValue item.toNat index.toNat (h.after (applyItem item.toNat index.toNat value h)))) := by
  have no {reason : Reason} {detail : Nat} : take (.setupSet item index value) h = refuse reason detail h →
    exec (.setupSet item index value) s = .next (h.declined (.setupSet item index value) reason detail) := hears.refused rfl
  refine exec_cond (take_setupSet item index value h) no fun row => exec_cond row no fun row => exec_cond row no fun row => ?_
  cases fault : itemFault item.toNat index.toNat value with
  | some detail =>
    rw [fault] at row
    exact no row
  | none =>
    rw [fault, judged_none] at row
    exact hears.event (.setupSet item index value) rfl row nofun

/-- Settles O53: the tests refuse in their order, and a value without a fault is taken with its effect. -/
theorem setupSetChecksInOrder : Obligations.SetupSetChecksInOrder := fun item index value _ listening =>
  listening.hears.setupSet item index value

end Sys2Proof.Machine

/-! START, RESET and the end of a reply (R169, R174, R175, R177). -/

namespace Sys2Proof.Machine

/-! What START asks of the setup (R175) -/

theorem ascending_iff : ∀ l : List Nat, ascending l = true ↔ l.Pairwise (· < ·)
  | [] => iff_of_true rfl .nil
  | [a] => iff_of_true rfl (List.pairwise_singleton _ a)
  | a :: b :: rest => by
    rw [ascending, Bool.and_eq_true, decide_eq_true_iff, ascending_iff (b :: rest), ← List.isChain_iff_pairwise, ← List.isChain_iff_pairwise,
      List.isChain_cons_cons]

/-- A band may stand behind another (R175). -/
def Band.Follows (p b : Band) : Prop := p.enter < b.enter ∧ p.level ≤ b.level

/-- The bands, each in itself and behind the band before it. -/
theorem bandsOrdered_iff (before : Option Band) (bands : List Band) : bandsOrdered before bands = true ↔
    (∀ b ∈ bands, b.leave < b.enter) ∧ (before.toList ++ bands).IsChain Band.Follows := by
  induction bands generalizing before with
  | nil => cases before <;> simp [bandsOrdered]
  | cons b bands ih =>
    have first : bandOrdered before b = true ↔ b.leave < b.enter ∧ ∀ p ∈ before, p.Follows b := by
      cases before <;> simp [bandOrdered, Band.Follows]
    rw [bandsOrdered, Bool.and_eq_true, first, ih (some b), List.forall_mem_cons]
    cases before with
    | none => simp [and_assoc]
    | some p => simp [List.isChain_cons_cons, and_assoc, and_left_comm]

theorem bandsOrdered_none_iff (bands : List Band) : bandsOrdered none bands = true ↔
    (∀ b ∈ bands, b.leave < b.enter) ∧ (bands.map Band.enter).Pairwise (· < ·) ∧ (bands.map Band.level).Pairwise (· ≤ ·) := by
  have : IsTrans Band Band.Follows := ⟨fun _ _ _ ⟨e, l⟩ ⟨e', l'⟩ => ⟨e.trans e', l.trans l'⟩⟩
  rw [bandsOrdered_iff, Option.toList_none, List.nil_append, List.isChain_iff_pairwise, List.pairwise_map, List.pairwise_map,
    ← List.pairwise_and_iff]
  rfl

/-- The first item that START finds at fault (R175). -/
theorem startFault_eq (u : Setup) : startFault u =
    if ¬ ((u.levels.map LevelEntry.speed).Pairwise (· < ·) ∧ (u.levels.map LevelEntry.flow).Pairwise (· < ·)) then some 6
    else if u.defrostLevel < u.dryFloor then some 8
    else if ¬ ((∀ b ∈ u.bands, b.leave < b.enter) ∧ (u.bands.map Band.enter).Pairwise (· < ·) ∧
        (u.bands.map Band.level).Pairwise (· ≤ ·)) then some 20
    else none := by
  have levels (a b : List Nat) : (ascending a && ascending b) = false ↔ ¬ (a.Pairwise (· < ·) ∧ b.Pairwise (· < ·)) := by
    rw [← ascending_iff, ← ascending_iff, ← Bool.and_eq_true, Bool.not_eq_true]
  have bands := (bandsOrdered_none_iff u.bands).not
  rw [Bool.not_eq_true] at bands
  exact if_congr (levels _ _) rfl (if_congr Iff.rfl rfl (if_congr bands rfl rfl))

/-! START and RESET (R175, R177) -/

/-- START, test by test. -/
theorem take_start (h : State) : take .start h =
    if h.link.part = .active then refuse .wrongState 0 h
    else if ¬ ((h.setup.levels.map LevelEntry.speed).Pairwise (· < ·) ∧ (h.setup.levels.map LevelEntry.flow).Pairwise (· < ·)) then
      refuse .badSetup 6 h
    else if h.setup.defrostLevel < h.setup.dryFloor then refuse .badSetup 8 h
    else if ¬ ((∀ b ∈ h.setup.bands, b.leave < b.enter) ∧ (h.setup.bands.map Band.enter).Pairwise (· < ·) ∧
        (h.setup.bands.map Band.level).Pairwise (· ≤ ·)) then refuse .badSetup 20 h
    else accept becomeActive (fun t => field 1 t.link.part.code) h := by
  change (if h.isActive then _ else match startFault h.setup with | some d => refuse .badSetup d h | none => _) = _
  rw [startFault_eq]
  refine if_congr Iff.rfl rfl ?_
  split_ifs <;> rfl

/-- START, row by row. -/
theorem Hears.start {s h : State} (hears : Hears s h) : exec .start s = .next (
    if h.link.part = .active then h.declined .start .wrongState 0
    else if ¬ ((h.setup.levels.map LevelEntry.speed).Pairwise (· < ·) ∧ (h.setup.levels.map LevelEntry.flow).Pairwise (· < ·)) then
      h.declined .start .badSetup 6
    else if h.setup.defrostLevel < h.setup.dryFloor then h.declined .start .badSetup 8
    else if ¬ ((∀ b ∈ h.setup.bands, b.leave < b.enter) ∧ (h.setup.bands.map Band.enter).Pairwise (· < ·) ∧
        (h.setup.bands.map Band.level).Pairwise (· ≤ ·)) then h.declined .start .badSetup 20
    else (h.after (becomeActive h)).replied .start [1#8]) := by
  have no {reason : Reason} {detail : Nat} : take .start h = refuse reason detail h →
    exec .start s = .next (h.declined .start reason detail) := hears.refused rfl
  refine exec_cond (take_start h) no fun row => exec_cond row no fun row => exec_cond row no fun row => exec_cond row no fun row => ?_
  have part : (h.after (becomeActive h)).link.part = .active := congrArg Link.part (event_link (fun _ => becomeActive h) h)
  have answered := hears.event .start rfl row nofun
  rw [part] at answered
  exact answered

/-- An accepted RESET is answered, and the reset of its scope awaits the end of the reply (R177). -/
theorem takeRequest_reset {scope : Byte} {h : State} (row : take (.reset scope) h = answerWith [scope] h) :
    takeRequest (.reset scope) h =
      h.answering (.reset scope) (frameOf 133#8 [scope]) (if scope.toNat = 0 then .fullReset else .softReset) := by
  unfold takeRequest
  rw [row]
  rfl

/-- RESET with scope FULL is answered before it takes effect (R177). -/
theorem Hears.resetFull {s h : State} (hears : Hears s h) :
    exec .resetFull s = .next (h.answering (.reset 0#8) (frameOf 133#8 [0#8]) .fullReset) :=
  (hears .resetFull _ rfl).trans (congrArg Host.Outcome.next (takeRequest_reset rfl))

/-- RESET with scope SOFT, too, where the part is ACTIVE (R177). -/
theorem Hears.resetSoft {s h : State} (hears : Hears s h) : exec .resetSoft s = .next (
    if h.link.part ≠ .active then h.declined (.reset 1#8) .wrongState 0
    else h.answering (.reset 1#8) (frameOf 133#8 [1#8]) .softReset) := by
  have row : take (.reset 1#8) h = if h.link.part ≠ .active then refuse .wrongState 0 h else answerWith [1#8] h :=
    if_congr (and_iff_right rfl) rfl rfl
  exact exec_cond row (hears.refused rfl) fun answered =>
    (hears .resetSoft _ rfl).trans (congrArg Host.Outcome.next (takeRequest_reset answered))

theorem takeRequest_reset_beyond {scope : Byte} (beyond : 1 < scope.toNat) (h : State) :
    takeRequest (.reset scope) h = h.declined (.reset scope) .badValue 0 := refused (if_pos beyond)

/-! The end of a reply (R169, R177) -/

section
variable {s : State} {a : Answer}

theorem takeHeld_none (free : s.link.held = none) : takeHeld s = { s with link := { s.link with answer := none } } := by
  unfold takeHeld
  rw [free]
  exact congrArg (fun held => s.setLink { s.link with answer := none, held := held }) free.symm

theorem takeHeld_some {r : Request} (held : s.link.held = some r) :
    takeHeld s = takeRequest r { s with link := { s.link with answer := none, held := none } } := by
  unfold takeHeld
  rw [held]
  rfl

/-- The state behind a reply that has left: the held request is taken, or the reset that awaited the reply begins (R169, R177). -/
def State.behindReply (s : State) : AfterReply → State
  | .nothing => takeHeld s
  | .softReset => linkSoftReset s
  | .fullReset => linkFullReset s

theorem replySent_answer (answer : s.link.answer = some a) : replySent s = s.behindReply a.after := by
  obtain ⟨request, reply, next⟩ := a
  unfold replySent
  rw [answer]
  cases next <;> rfl

/-- The reset row acts where the answer in place awaits it (log entry 9). -/
theorem exec_softReset (running : s.rst.inReset = false) (answer : s.link.answer = some a) (next : a.after = .softReset) :
    exec .softReset s = .next (linkSoftReset s) :=
  (live_running running).trans (congrArg Host.Outcome.next (if_pos (next ▸ awaits_of_answer answer)))

end

/-- Settles O55: START by its tests, RESET by its answer, and the end of a reply by what awaits it. -/
theorem startResetAndTheEndOfAReply : Obligations.StartResetAndTheEndOfAReply := by
  intro s running
  refine ⟨fun free => ?requests, fun a answer => ?ends⟩
  case requests =>
    have hears := State.listening.hears ⟨running, free⟩
    exact ⟨hears.start, hears.resetFull, hears.resetSoft, fun scope beyond => takeRequest_reset_beyond beyond _⟩
  case ends =>
    have sent : exec .replySent s = .next (replySent s) := live_running running
    refine ⟨fun next free => ?_, fun r next held => ?_, fun next => ?_, fun next => ?_⟩
    · rw [sent, replySent_answer answer, next, State.behindReply, takeHeld_none free]
    · rw [sent, replySent_answer answer, next, State.behindReply, takeHeld_some held]
    · rw [sent, replySent_answer answer, next, State.behindReply, exec_softReset running answer next]
    · rw [sent, replySent_answer answer, next, State.behindReply, exec_linkFullReset running answer next]
      exact congrArg Host.Outcome.next (assertSource_begins running)

end Sys2Proof.Machine

/-! The setup items one by one: lengths, ranges with their details, and effects (R5, R28 to R30, R38, R64, R70, R72, R115, R142, R176). -/

namespace Sys2Proof.Machine

/-! Ranges -/

/-- A value is refused with detail 0 unless its test holds. -/
theorem need_eq {a b : Bool} (same : a = b) : need a = if b then none else some 0 := congrArg need same

theorem within_eq (lo hi n : Nat) : within lo hi n = decide (lo ≤ n ∧ n ≤ hi) := (Bool.decide_and _ _).symm

theorem within_zero (hi n : Nat) : within 0 hi n = decide (n ≤ hi) := by simp [within]

/-- The level table's entry: the level, then the speed, then the flow (R38). -/
theorem levelFault_eq (index : Nat) (value : List Byte) : levelFault index value =
    if index = 0 ∨ 12 < index then some 0
    else if leValue (value.take 2) < 200 ∨ 3000 < leValue (value.take 2) then some 1
    else if leValue (value.drop 2) < 10 ∨ 1000 < leValue (value.drop 2) then some 2 else none :=
  if_congr Iff.rfl rfl (if_congr (within_eq_false_iff _ _ _) rfl (if_congr (within_eq_false_iff _ _ _) rfl rfl))

/-- A channel's threshold or fault limit: the channel, then the value (R30). -/
theorem channelItemFault_eq (index hi n : Nat) : channelItemFault index hi n =
    if 8 ≤ index ∧ index ≠ 255 then some 0 else if n = 0 ∨ hi < n then some 1 else none := by
  have range : within 1 hi n = false ↔ n = 0 ∨ hi < n := by rw [within_eq_false_iff, Nat.lt_one_iff]
  exact if_congr Iff.rfl rfl (if_congr range rfl rfl)

/-! The plan (R5) -/

/-- The entries name channels, none of them twice and none that is `seen`. -/
def PlanStands (seen : List Nat) (bs : List Byte) : Prop := (bs.map BitVec.toNat).Nodup ∧ ∀ b ∈ bs, b.toNat ≤ 7 ∧ b.toNat ∉ seen

theorem planStands_nil (seen : List Nat) : PlanStands seen [] := ⟨.nil, nofun⟩

theorem planStands_cons (seen : List Nat) (b : Byte) (bs : List Byte) :
    PlanStands seen (b :: bs) ↔ ¬ (7 < b.toNat ∨ b.toNat ∈ seen) ∧ PlanStands (b.toNat :: seen) bs := by
  simp only [PlanStands, List.map_cons, List.nodup_cons, List.mem_cons, not_or, List.mem_map, not_exists, not_and,
    not_lt]
  grind

theorem planFault_eq_none_iff (seen : List Nat) (pos : Nat) (bs : List Byte) : planFault seen pos bs = none ↔ PlanStands seen bs := by
  induction bs generalizing seen pos with
  | nil => exact iff_of_true rfl (planStands_nil seen)
  | cons b bs ih =>
    rw [planStands_cons, planFault]
    split
    · next fault => exact iff_of_false nofun fun stands => stands.1 fault
    · next fits => rw [ih, and_iff_right fits]

/-- The fault is the first entry that no plan so far lets stand. -/
theorem planFault_eq_some_iff (seen : List Nat) (pos : Nat) (bs : List Byte) (d : Nat) : planFault seen pos bs = some d ↔
    ∃ k, d = pos + k ∧ PlanStands seen (bs.take k) ∧ ∃ b, bs[k]? = some b ∧ (7 < b.toNat ∨ b.toNat ∈ seen ∨ b ∈ bs.take k) := by
  induction bs generalizing seen pos with
  | nil => simp [planFault]
  | cons b bs ih =>
    rw [planFault, ← Nat.or_exists_add_one]
    simp only [List.take_zero, List.take_succ_cons, planStands_cons, List.getElem?_cons_zero, List.getElem?_cons_succ, planStands_nil]
    split
    · next fault => simp [fault]; tauto
    · next fits =>
      have entry (c : Byte) (k : Nat) : (7 < c.toNat ∨ c.toNat ∈ b.toNat :: seen ∨ c ∈ bs.take k) ↔
          (7 < c.toNat ∨ c.toNat ∈ seen ∨ c ∈ b :: bs.take k) := by
        rw [List.mem_cons, List.mem_cons, BitVec.toNat_inj]; tauto
      have first : ¬ ∃ c, some b = some c ∧ (7 < c.toNat ∨ c.toNat ∈ seen ∨ c ∈ []) := by
        simpa [not_or] using fits
      simp only [ih, entry, first, fits, not_false_eq_true, true_and, and_false, false_or, Nat.add_assoc, Nat.add_comm 1]

/-! The band list (R64) -/

/-- A band may stand behind the band before it, if there is one. -/
def Band.Stands (before : Option Band) (b : Band) : Prop :=
  1 ≤ b.enter ∧ b.enter ≤ 1000 ∧ b.leave ≤ 999 ∧ 1 ≤ b.level ∧ b.level ≤ 12 ∧ b.leave < b.enter ∧
    ∀ p ∈ before, p.enter < b.enter ∧ p.level ≤ b.level

theorem bandFault_iff (before : Option Band) (b : Band) : bandFault before b = true ↔ ¬ b.Stands before := by
  unfold bandFault Band.Stands
  cases before with
  | none => simp [within]; omega
  | some p => simp [within]; omega

/-- The band before place `j` of a list, with `before` in front of the list. -/
def bandBefore (before : Option Band) (bands : List Band) : Nat → Option Band
  | 0 => before
  | j + 1 => bands[j]?

/-- The band at place `j` is at fault. -/
def BadAt (before : Option Band) (bands : List Band) (j : Nat) : Prop :=
  ∃ b, bands[j]? = some b ∧ ¬ b.Stands (bandBefore before bands j)

theorem badAt_cons_zero (before : Option Band) (b : Band) (bands : List Band) :
    BadAt before (b :: bands) 0 ↔ bandFault before b = true := by
  rw [bandFault_iff]
  simp [BadAt, bandBefore]

theorem badAt_cons_succ (before : Option Band) (b : Band) (bands : List Band) (j : Nat) :
    BadAt before (b :: bands) (j + 1) ↔ BadAt (some b) bands j := by
  cases j <;> rfl

/-- What R64 asks of the band at place `k` of a list. -/
theorem stands_iff (bands : List Band) (k : Nat) (b : Band) : b.Stands (bandBefore none bands k) ↔
    1 ≤ b.enter ∧ b.enter ≤ 1000 ∧ b.leave ≤ 999 ∧ 1 ≤ b.level ∧ b.level ≤ 12 ∧ b.leave < b.enter ∧
      ∀ p, 0 < k → bands[k - 1]? = some p → p.enter < b.enter ∧ p.level ≤ b.level := by
  cases k <;> simp [Band.Stands, bandBefore]

theorem not_badAt_iff (before : Option Band) (bands : List Band) (k : Nat) :
    ¬ BadAt before bands k ↔ ∀ b, bands[k]? = some b → b.Stands (bandBefore before bands k) := by
  simp [BadAt]

/-- The first place of some kind is the first of all, or comes later where the first is none. -/
theorem first_iff {P : Nat → Prop} {k d : Nat} : (∃ j, d = k + j ∧ P j ∧ ∀ i < j, ¬ P i) ↔
    P 0 ∧ d = k ∨ ¬ P 0 ∧ ∃ j, d = k + 1 + j ∧ P (j + 1) ∧ ∀ i < j, ¬ P (i + 1) := by
  constructor
  · rintro ⟨j, rfl, at', before⟩
    cases j with
    | zero => exact .inl ⟨at', rfl⟩
    | succ j => exact .inr ⟨before 0 j.succ_pos, j, by omega, at', fun i below => before (i + 1) (by omega)⟩
  · rintro (⟨at', rfl⟩ | ⟨first, j, rfl, at', before⟩)
    · exact ⟨0, rfl, at', nofun⟩
    · refine ⟨j + 1, by omega, at', fun i below => ?_⟩
      cases i with
      | zero => exact first
      | succ i => exact before i (by omega)

theorem bandsFault_eq_some_iff (before : Option Band) (k : Nat) (bands : List Band) (d : Nat) : bandsFault before k bands = some d ↔
    ∃ j, d = k + j ∧ BadAt before bands j ∧ ∀ i < j, ¬ BadAt before bands i := by
  induction bands generalizing before k with
  | nil => simp [bandsFault, BadAt]
  | cons b bands ih =>
    rw [first_iff, badAt_cons_zero]
    simp only [badAt_cons_succ]
    rw [bandsFault, ← ih]
    split
    · next fault => simp [fault, eq_comm]
    · next fits => simp [fits]

theorem bandsFault_eq_none_iff (before : Option Band) (k : Nat) (bands : List Band) : bandsFault before k bands = none ↔
    ∀ j, ¬ BadAt before bands j := by
  induction bands generalizing before k with
  | nil => simp [bandsFault, BadAt]
  | cons b bands ih =>
    rw [← Nat.and_forall_add_one, badAt_cons_zero]
    simp only [badAt_cons_succ]
    rw [bandsFault, ← ih (some b) (k + 1)]
    split
    · next fault => simp [fault]
    · next fits => simp [fits]

/-! Channel thresholds and fault limits (R29, R30) -/

theorem mem_indexChannels_iff (n : Nat) (c : Channel) : c ∈ indexChannels n ↔ n = c.num ∨ 8 ≤ n := by
  by_cases below : n < 8
  · rw [mem_indexChannels (.inl below)]
    omega
  · have all : indexChannels n = Channel.all := by unfold indexChannels; rw [Channel.ofNum_none (by omega)]
    rw [all]
    exact iff_of_true (Channel.mem_all c) (.inr (by omega))

/-- A change of the record alone, made on each channel that the index names. -/
theorem changedChannels_chan (f : Chan → Chan) (index : Nat) (s : State) (c : Channel) :
    (eachInTurn (fun ch => changeChan ch f) (indexChannels index) s).chan c =
      if index = c.num ∨ 8 ≤ index then f (s.chan c) else s.chan c := by
  rw [← if_congr (mem_indexChannels_iff index c) rfl rfl]
  exact eachInTurn_at (view := fun s => s.chan c) (f := fun ch => changeChan ch f) (g := f)
    (fun f s => by unfold State.chan; rw [event_chans]) (fun s => changeChan_same c f s)
    (fun d s differs => changeChan_other (Ne.symm differs) f s) (indexChannels_nodup index) s

section
variable {c : Chan} {n : Nat}

theorem Chan.setThreshold_idle (notQualifying : c.state ≠ .qualifying) (notQualified : c.state ≠ .qualified) :
    c.setThreshold n = { c with threshold := n } := if_neg (not_or.mpr ⟨notQualifying, notQualified⟩)

theorem Chan.setThreshold_same (counts : c.state = .qualifying ∨ c.state = .qualified) (same : c.threshold = n) :
    c.setThreshold n = c :=
  (if_pos counts).trans ((if_neg (by omega)).trans (if_neg (by omega)))

theorem Chan.setThreshold_raised (counts : c.state = .qualifying ∨ c.state = .qualified) (raised : c.threshold < n) :
    c.setThreshold n = { c with threshold := n, state := .qualifying, value := none } :=
  (if_pos counts).trans ((if_neg (by omega)).trans (if_pos raised))

/-- A lowered threshold that the run has reached qualifies the channel at once (R29). -/
theorem Chan.setThreshold_qualifies (qualifying : c.state = .qualifying) (lowered : n < c.threshold) (reached : n ≤ c.run) :
    c.setThreshold n = { c with
      threshold := n, run := n, state := .qualified, value := some (roundDiv c.window.sum c.window.length) } := by
  refine (if_pos (.inl qualifying)).trans ((if_pos lowered).trans ?_)
  dsimp only
  rw [Nat.min_eq_right reached, if_pos ⟨qualifying, rfl⟩]
  rfl

theorem Chan.setThreshold_lowered (counts : c.state = .qualifying ∨ c.state = .qualified) (lowered : n < c.threshold)
    (stays : c.state = .qualified ∨ c.run < n) : c.setThreshold n = { c with threshold := n, run := min c.run n } := by
  refine (if_pos counts).trans ((if_pos lowered).trans (if_neg ?_))
  rintro ⟨qualifying, reached⟩
  rcases stays with qualified | short
  · exact nomatch qualifying.symm.trans qualified
  · omega

end

/-! The drain mode (R115) -/

theorem drainOf_eq (n : Nat) : drainOf n = if n = 0 then .bucket else if n = 1 then .pump else .gravity := by
  unfold drainOf
  split
  · rfl
  · rfl
  · next notBucket notPump => rw [if_neg notBucket, if_neg notPump]

/-- The tank state under the drain mode `d`, evaluated afresh (R115, R118, R120). -/
def State.tankUnder (s : State) (d : Drain) : TankState :=
  if s.water.tankIn.filtered = false then .out
  else if d = .gravity then .normal
  else if s.water.float.filtered = true then .full
  else match s.qual .tankLvl with
    | some v => if 950 ≤ v then .full else if 800 ≤ v then .nearFull else .normal
    | none => .normal

theorem tankFresh_eq (s : State) : s.tankFresh = s.tankUnder s.setup.optDrain := by
  unfold State.tankFresh State.tankUnder
  cases s.setup.optDrain with
  | gravity => cases s.water.tankIn.filtered <;> rfl
  | bucket | pump => rfl

/-- OPT_DRAIN set to another value (R115, R120). -/
theorem applyDrain_changed {d : Drain} {s : State} (new : d ≠ s.setup.optDrain) : applyDrain d s = { s with
    setup := { s.setup with optDrain := d },
    water := { s.water with held := if d = .gravity then none else s.water.held, tank := s.tankUnder d } } := by
  refine (if_neg new).trans ?_
  dsimp only
  rw [tankFresh_eq]
  cases d <;> rfl

/-! The particulate items (R70, R72) -/

theorem Cleaning.newBands_kept {u : Setup} {pm : Option Int} {c : Cleaning} (kept : c.mode ≠ .auto ∨ c.basis = some .fallback) :
    c.newBands u pm = c := if_pos kept

/-- A new band table carries AUTO's level over, until a value resolves it (R71, R72). -/
theorem Cleaning.newBands_carried {u : Setup} {pm : Option Int} {c : Cleaning} (auto : c.mode = .auto) (basis : c.basis ≠ some .fallback) :
    c.newBands u pm = pm.elim { c with basis := some .carried, band := none, stepDown := none }
      fun v => { c with basis := some .carried, band := none, stepDown := none }.resolve u v := by
  refine (if_neg (not_or.mpr ⟨not_not_intro auto, basis⟩)).trans ?_
  cases pm <;> rfl

theorem Cleaning.resolve_eq (u : Setup) (v : Int) (c : Cleaning) : c.resolve u v =
    if c.autoLevel.getD 0 ≤ u.levelOf (targetBand u.bands v) then { c with
      basis := some (if targetBand u.bands v = none then .floor else .band), band := targetBand u.bands v,
      autoLevel := some (u.levelOf (targetBand u.bands v)), stepDown := none }
    else { c with stepDown := some (c.stepDown.getD 0) } := by
  rw [← Cleaning.take_eq]
  rfl

/-! The pressure slot and the check interval (R135, R142) -/

theorem slotItem_eq (n : Nat) : (Slot.ofNum n).getD .fine = if n = 0 then .pre else if n = 2 then .carbon else .fine := by
  match n with
  | 0 | 1 | 2 => rfl
  | n + 3 => rfl

theorem testInterval_eq (s : State) : testInterval s = s.withCheck (
    if s.link.part = .active ∧ s.filt.check.state = .idle ∧ s.setup.checkInterval ≤ s.filt.check.runCount then
      { s.filt.check with state := .due, dueCause := some .interval }
    else s.filt.check) := by
  unfold testInterval
  dsimp only
  split <;> rfl

/-- The plan's fault by the entries before it. -/
theorem planFault_some_iff (value : List Byte) (k : Nat) : planFault [] 0 value = some k ↔
    ((value.map BitVec.toNat).take k).Nodup ∧ (∀ b ∈ value.take k, b.toNat ≤ 7) ∧
      ∃ b, value[k]? = some b ∧ (7 < b.toNat ∨ b ∈ value.take k) := by
  rw [planFault_eq_some_iff]
  simp only [PlanStands, Nat.zero_add, List.map_take, List.not_mem_nil, not_false_eq_true, and_true, false_or, exists_eq_left', and_assoc]

theorem planFault_none_iff (value : List Byte) : planFault [] 0 value = none ↔
    (value.map BitVec.toNat).Nodup ∧ ∀ b ∈ value, b.toNat ≤ 7 := by
  rw [planFault_eq_none_iff]
  simp only [PlanStands, List.not_mem_nil, not_false_eq_true, and_true]

/-- Settles O54: lengths and ranges by each item's own test, and effects by the operation that the item's value reaches. -/
theorem itemsHaveTheirRangesAndEffects : Obligations.ItemsHaveTheirRangesAndEffects := by
  refine ⟨fun n => ⟨fun id mem => ?single, fun id mem => ?double, fun id mem => ?quad, ?plan, ?bands⟩, fun index value => ?ranges,
    fun index value h => ?effects⟩
  case single | double | quad => fin_cases mem <;> rfl
  case plan | bands => exact (Bool.decide_and _ _).symm
  case ranges =>
    intro n only
    have upTo (hi : Nat) : need (within 0 hi n) = only (decide (n ≤ hi)) := need_eq (within_zero hi n)
    have between (lo hi : Nat) : need (within lo hi n) = only (decide (lo ≤ n ∧ n ≤ hi)) := need_eq (within_eq lo hi n)
    refine ⟨?flag, ?code, upTo 7, ?capacity, need_eq (Bool.decide_or _ _).symm, levelFault_eq index value, ?level,
      planFault_none_iff value, planFault_some_iff value, channelItemFault_eq index 8 n, channelItemFault_eq index 254 n, between 5 120,
      ?bandsStand, ?bandsFault, ?floor, between 10 900, ?supply, ?silence, need_eq (Bool.decide_and _ _).symm, upTo 500,
      between 3600 604800⟩
    case flag => exact fun id mem => by fin_cases mem; exact upTo 1
    case code => exact fun id mem => by fin_cases mem <;> exact upTo 2
    case level => exact fun id mem => by fin_cases mem <;> exact between 1 12
    case floor => exact fun id mem => by fin_cases mem <;> exact upTo 12
    case capacity | supply => exact need_eq (by rw [within_eq, ← Bool.decide_and]; simp only [and_assoc]; rfl)
    case silence => exact need_eq (by rw [within_eq, ← Bool.decide_or])
    case bandsStand =>
      refine (bandsFault_eq_none_iff none 1 (bandsOf value)).trans (forall_congr' fun k => (not_badAt_iff _ _ k).trans ?_)
      simp only [stands_iff]
    case bandsFault =>
      intro bad d
      have badAt (k : Nat) : BadAt none (bandsOf value) k ↔ bad k := by simp only [BadAt, stands_iff, bad]
      refine (bandsFault_eq_some_iff none 1 (bandsOf value) d).trans ?_
      simp only [badAt, Nat.add_comm 1]
  case effects =>
    intro n u now
    have changed (c : Channel) (f : Chan → Chan) (named : index = c.num ∨ 8 ≤ index) :
        (eachInTurn (fun ch => changeChan ch f) (indexChannels index) h).chan c = f (h.chan c) :=
      (changedChannels_chan f index h c).trans (if_pos named)
    have others (c : Channel) (f : Chan → Chan) (other : index ≠ c.num) (low : index < 8) :
        (eachInTurn (fun ch => changeChan ch f) (indexChannels index) h).chan c = h.chan c :=
      (changedChannels_chan f index h c).trans (if_neg (by omega))
    refine ⟨rfl, rfl, rfl, rfl, rfl, rfl, rfl, rfl, ?pressureSlot, rfl, fun c named => ?threshold,
      fun c other low => ⟨others c _ other low, others c _ other low⟩, rfl, rfl, rfl, rfl, rfl, rfl, rfl, rfl, ?drain, ?clean, ?check⟩
    case pressureSlot => exact congrArg (fun slot => ({ h with setup := { u with pressureSlot := slot } } : State)) (slotItem_eq n)
    case threshold =>
      intro old
      refine ⟨changed c _ named, fun notQualifying notQualified => ?_, fun counts => ⟨fun same => ?_, fun raised => ?_, fun lowered =>
        ⟨fun qualifying reached => ?_, fun stays => ?_⟩⟩⟩ <;> refine (changed c _ named).trans ?_
      · exact Chan.setThreshold_idle notQualifying notQualified
      · exact Chan.setThreshold_same counts same
      · exact Chan.setThreshold_raised counts raised
      · exact Chan.setThreshold_qualifies qualifying lowered reached
      · exact Chan.setThreshold_lowered counts lowered stays
    case drain =>
      intro d
      have drains : now 2 = applyDrain d h := congrArg (applyDrain · h) (drainOf_eq n)
      refine ⟨fun same => ?_, fun new => ?_⟩
      · exact drains.trans (if_pos same)
      · exact drains.trans (applyDrain_changed new)
    case clean =>
      intro auto cleaned floor fall table carried
      have cleans (setup : Setup) {f : Cleaning → Cleaning} {c : Cleaning} (change : f h.clean = c) :
          changeClean f (h.setSetup setup) = cleaned setup c := change ▸ changeClean_eq f (h.setSetup setup)
      refine ⟨cleans floor rfl, cleans fall rfl, fun kept => changeClean_same (Cleaning.newBands_kept kept),
        fun mode basis => ⟨fun absent => cleans table ?_, fun v value => cleans table ?_⟩⟩
      · rw [Cleaning.newBands_carried mode basis]
        exact congrArg (Option.elim · _ _) absent
      · rw [Cleaning.newBands_carried mode basis]
        exact (congrArg (Option.elim · _ _) value).trans (Cleaning.resolve_eq table v carried)
    case check => exact testInterval_eq _

end Sys2Proof.Machine

/-! One step on the queue of waiting commands (log entry 13). -/

namespace Sys2Proof.Machine

section
variable {s : State}

theorem step_front {c : Instr} {rest : List Instr} (waiting : s.pending = c :: rest) : step s = exec c (s.setPending rest) := by
  unfold step
  rw [waiting]

theorem step_idle (empty : s.pending = []) : step s = .next s := by
  unfold step
  rw [empty]

end

/-- Settles O1: a step by whether a command waits. -/
theorem stepTakesFrontCommand : Obligations.StepTakesFrontCommand := ⟨fun _ _ _ => step_front, fun _ => step_idle⟩

end Sys2Proof.Machine

/-! The service runs: SERVICE_RUN of each kind, SERVICE_STOP and the expiry (R182 to R186). -/

namespace Sys2Proof.Machine

/-! The end of a run (R182, R184 to R186) -/

/-- The end of the run in force, kind by kind. -/
theorem stopService_eq (s : State) : stopService s = s.serviceStopped := by
  unfold stopService State.serviceStopped
  cases s.serv.run with
  | none => rfl
  | some r =>
    obtain ⟨kind, level, channel, remaining⟩ := r
    cases kind with
    | fan | compressor => rfl
    | pump =>
      dsimp only
      rw [endPump_eq, if_neg (show ServiceKind.pump ≠ .fan by decide)]
      exact if_congr (and_iff_right rfl).symm rfl rfl

theorem exec_serviceRunExpiry {s : State} {r : ServiceRun} (awake : s.rst.inReset = false) (run : s.serv.run = some r)
    (ended : r.remaining = some 0) : exec .serviceRunExpiry s = .next (s.after s.serviceStopped) := by
  have expired : s.serviceExpired = true := by
    unfold State.serviceExpired
    rw [run]
    exact decide_eq_true ended
  rw [← stopService_eq]
  exact whenDue_after (test := fun s => s.serviceExpired = true) awake expired

/-! The tests of a request (R183) -/

theorem within_false_iff {lo hi n : Nat} : within lo hi n = false ↔ n < lo ∨ hi < n := by
  rw [within_eq, decide_eq_false_iff_not]
  omega

/-- A channel field above 7 names a channel only where it is the 255 that gives none (R184). -/
theorem noChannel_iff (d : Byte) : 7 < d.toNat ∧ d.toNat ≠ 255 ↔ 7 < d.toNat ∧ d ≠ 255#8 :=
  and_congr_right' (not_congr (BitVec.toNat_inj (y := 255#8)))

section
variable (h : State)

/-- A wrong length is refused before what the kind's own rule asks for. -/
theorem take_serviceRun_length {kind : Byte} {params : List Byte} (known : kind.toNat ≤ 2)
    (length : params.length ≠ serviceLength kind.toNat) :
    take (.serviceRun kind params) h = if h.link.part ≠ .active then refuse .wrongState 0 h else refuse .badLength 0 h :=
  if_congr Iff.rfl rfl ((if_neg (Nat.not_lt.mpr known)).trans (if_pos length))

/-- A known kind and its right length pass their tests. -/
theorem take_serviceRun_tested {kind length : Nat} {x y z : Taken} (known : kind ≤ 2) (right : length = serviceLength kind) :
    (if 2 < kind then x else if length ≠ serviceLength kind then y else z) = z :=
  (if_neg (Nat.not_lt.mpr known)).trans (if_neg (not_not_intro right))

theorem take_serviceRun_fan (a b c d : Byte) : take (.serviceRun 0#8 [a, b, c, d]) h =
    if h.link.part ≠ .active then refuse .wrongState 0 h
    else if h.serv.run.isSome = true then refuse .busy 0 h
    else if 12 < a.toNat then refuse .badValue 1 h
    else if b.toNat + 256 * c.toNat = 0 ∨ 600 < b.toNat + 256 * c.toNat then refuse .badValue 2 h
    else if 7 < d.toNat ∧ d ≠ 255#8 then refuse .badValue 3 h
    else if h.comp.on = true ∨ h.dry.phase = .starting then refuse .wrongState 0 h
    else accept (startFanRun a.toNat (b.toNat + 256 * c.toNat) (Channel.ofNum d.toNat)) runReply h := by
  have seconds : within 1 600 (b.toNat + 256 * c.toNat) = false ↔ b.toNat + 256 * c.toNat = 0 ∨ 600 < b.toNat + 256 * c.toNat :=
    within_false_iff.trans (or_congr_left Nat.lt_one_iff)
  refine if_congr Iff.rfl rfl ((take_serviceRun_tested (by decide) rfl).trans (if_congr Iff.rfl rfl (if_congr Iff.rfl rfl ?_)))
  exact if_congr seconds rfl (if_congr (noChannel_iff d) rfl rfl)

theorem take_serviceRun_compressor (a b : Byte) : take (.serviceRun 1#8 [a, b]) h =
    if h.link.part ≠ .active then refuse .wrongState 0 h
    else if h.serv.run.isSome = true then refuse .busy 0 h
    else if h.setup.optCompressor = false then refuse .notFitted 0 h
    else if a.toNat + 256 * b.toNat < 60 ∨ 900 < a.toNat + 256 * b.toNat then refuse .badValue 2 h
    else if h.dry.disabled = true then refuse .faultLatched 0 h
    else accept (startCompressorRun (a.toNat + 256 * b.toNat)) runReply h := by
  refine if_congr Iff.rfl rfl ((take_serviceRun_tested (by decide) rfl).trans (if_congr Iff.rfl rfl (if_congr Iff.rfl rfl ?_)))
  exact if_congr within_false_iff rfl rfl

theorem take_serviceRun_pump (params : List Byte) : take (.serviceRun 2#8 params) h =
    if h.link.part ≠ .active then refuse .wrongState 0 h
    else if params ≠ [] then refuse .badLength 0 h
    else if h.serv.run.isSome = true then refuse .busy 0 h
    else if h.setup.optDrain ≠ .pump then refuse .notFitted 0 h
    else if h.water.fault = true then refuse .faultLatched 0 h
    else if h.water.pump.state ≠ .idle then refuse .busy 0 h
    else if h.water.tankIn.filtered = false then refuse .wrongState 1 h
    else if h.supplyLow = true then refuse .wrongState 2 h
    else accept startPumpRun runReply h :=
  if_congr Iff.rfl rfl ((if_neg (by decide)).trans (if_congr (not_congr List.length_eq_zero_iff) rfl rfl))

theorem take_serviceStop : take .serviceStop h =
    if h.link.part ≠ .active then refuse .wrongState 0 h else accept stopService runReply h := rfl

end

/-! The request rows -/

section
variable {s h u : State}

/-- An accepted request is answered with the record of the run as it then stands (R183). -/
theorem Hears.serviceTaken {f : State → State} {r : Request} (hears : Hears s h) (i : Instr) (row : asked i = some r)
    (taken : take r h = accept f runReply h) (plain : ∀ b, r ≠ .reset b) (effect : f h = u) :
    exec i s = .next ((h.after u).replied r (serviceBytes (h.after u).serv.run)) := by
  rw [← effect]
  exact (hears.event i row taken plain :)

/-- The length of the parameters of each kind is its own (R183). -/
theorem Hears.serviceRunFan_length (hears : Hears s h) {params : List Byte} (length : params.length ≠ 4) :
    exec (.serviceRunFan params) s = .next (
      if h.link.part ≠ .active then h.declined (.serviceRun 0#8 params) .wrongState 0
      else h.declined (.serviceRun 0#8 params) .badLength 0) :=
  exec_cond (take_serviceRun_length h (kind := 0#8) (by decide) length) (hears.refused rfl) (hears.refused rfl)

/-- SERVICE_RUN of kind FAN, row by row. -/
theorem Hears.serviceRunFan (hears : Hears s h) (a b c d : Byte)
    (effect : startFanRun a.toNat (b.toNat + 256 * c.toNat) (Channel.ofNum d.toNat) h = u) :
    exec (.serviceRunFan [a, b, c, d]) s = .next (
      if h.link.part ≠ .active then h.declined (.serviceRun 0#8 [a, b, c, d]) .wrongState 0
      else if h.serv.run.isSome = true then h.declined (.serviceRun 0#8 [a, b, c, d]) .busy 0
      else if 12 < a.toNat then h.declined (.serviceRun 0#8 [a, b, c, d]) .badValue 1
      else if b.toNat + 256 * c.toNat = 0 ∨ 600 < b.toNat + 256 * c.toNat then h.declined (.serviceRun 0#8 [a, b, c, d]) .badValue 2
      else if 7 < d.toNat ∧ d ≠ 255#8 then h.declined (.serviceRun 0#8 [a, b, c, d]) .badValue 3
      else if h.comp.on = true ∨ h.dry.phase = .starting then h.declined (.serviceRun 0#8 [a, b, c, d]) .wrongState 0
      else (h.after u).replied (.serviceRun 0#8 [a, b, c, d]) (serviceBytes (h.after u).serv.run)) := by
  have no {reason : Reason} {detail : Nat} : take (.serviceRun 0#8 [a, b, c, d]) h = refuse reason detail h →
    exec (.serviceRunFan [a, b, c, d]) s = .next (h.declined (.serviceRun 0#8 [a, b, c, d]) reason detail) := hears.refused rfl
  refine exec_cond (take_serviceRun_fan h a b c d) no fun row => exec_cond row no fun row => exec_cond row no fun row =>
    exec_cond row no fun row => exec_cond row no fun row => exec_cond row no fun row => ?_
  exact hears.serviceTaken (.serviceRunFan [a, b, c, d]) rfl row nofun effect

theorem Hears.serviceRunCompressor_length (hears : Hears s h) {params : List Byte} (length : params.length ≠ 2) :
    exec (.serviceRunCompressor params) s = .next (
      if h.link.part ≠ .active then h.declined (.serviceRun 1#8 params) .wrongState 0
      else h.declined (.serviceRun 1#8 params) .badLength 0) :=
  exec_cond (take_serviceRun_length h (kind := 1#8) (by decide) length) (hears.refused rfl) (hears.refused rfl)

/-- SERVICE_RUN of kind COMPRESSOR, row by row. -/
theorem Hears.serviceRunCompressor (hears : Hears s h) (a b : Byte) (effect : startCompressorRun (a.toNat + 256 * b.toNat) h = u) :
    exec (.serviceRunCompressor [a, b]) s = .next (
      if h.link.part ≠ .active then h.declined (.serviceRun 1#8 [a, b]) .wrongState 0
      else if h.serv.run.isSome = true then h.declined (.serviceRun 1#8 [a, b]) .busy 0
      else if h.setup.optCompressor = false then h.declined (.serviceRun 1#8 [a, b]) .notFitted 0
      else if a.toNat + 256 * b.toNat < 60 ∨ 900 < a.toNat + 256 * b.toNat then h.declined (.serviceRun 1#8 [a, b]) .badValue 2
      else if h.dry.disabled = true then h.declined (.serviceRun 1#8 [a, b]) .faultLatched 0
      else (h.after u).replied (.serviceRun 1#8 [a, b]) (serviceBytes (h.after u).serv.run)) := by
  have no {reason : Reason} {detail : Nat} : take (.serviceRun 1#8 [a, b]) h = refuse reason detail h →
    exec (.serviceRunCompressor [a, b]) s = .next (h.declined (.serviceRun 1#8 [a, b]) reason detail) := hears.refused rfl
  exact exec_cond (take_serviceRun_compressor h a b) no fun row => exec_cond row no fun row => exec_cond row no fun row =>
    exec_cond row no fun row => exec_cond row no fun row => hears.serviceTaken (.serviceRunCompressor [a, b]) rfl row nofun effect

/-- SERVICE_RUN of kind PUMP, row by row. -/
theorem Hears.serviceRunPump (hears : Hears s h) (params : List Byte) (effect : startPumpRun h = u) :
    exec (.serviceRunPump params) s = .next (
      if h.link.part ≠ .active then h.declined (.serviceRun 2#8 params) .wrongState 0
      else if params ≠ [] then h.declined (.serviceRun 2#8 params) .badLength 0
      else if h.serv.run.isSome = true then h.declined (.serviceRun 2#8 params) .busy 0
      else if h.setup.optDrain ≠ .pump then h.declined (.serviceRun 2#8 params) .notFitted 0
      else if h.water.fault = true then h.declined (.serviceRun 2#8 params) .faultLatched 0
      else if h.water.pump.state ≠ .idle then h.declined (.serviceRun 2#8 params) .busy 0
      else if h.water.tankIn.filtered = false then h.declined (.serviceRun 2#8 params) .wrongState 1
      else if h.supplyLow = true then h.declined (.serviceRun 2#8 params) .wrongState 2
      else (h.after u).replied (.serviceRun 2#8 params) (serviceBytes (h.after u).serv.run)) := by
  have no {reason : Reason} {detail : Nat} : take (.serviceRun 2#8 params) h = refuse reason detail h →
    exec (.serviceRunPump params) s = .next (h.declined (.serviceRun 2#8 params) reason detail) := hears.refused rfl
  exact exec_cond (take_serviceRun_pump h params) no fun row => exec_cond row no fun row => exec_cond row no fun row =>
    exec_cond row no fun row => exec_cond row no fun row => exec_cond row no fun row => exec_cond row no fun row =>
    exec_cond row no fun row => hears.serviceTaken (.serviceRunPump params) rfl row nofun effect

/-- SERVICE_STOP, row by row. -/
theorem Hears.serviceStop (hears : Hears s h) : exec .serviceStop s = .next (
    if h.link.part ≠ .active then h.declined .serviceStop .wrongState 0
    else (h.after h.serviceStopped).replied .serviceStop (serviceBytes (h.after h.serviceStopped).serv.run)) := by
  refine exec_cond (take_serviceStop h) (hears.refused rfl) fun row => ?_
  exact hears.serviceTaken .serviceStop rfl row nofun (stopService_eq h)

end

/-- Settles O59: each kind's refusals and start by its rows in order, and the end of a run by its kind. -/
theorem serviceRunsStartAndEnd : Obligations.ServiceRunsStartAndEnd := by
  intro s awake
  refine ⟨fun free => ?requests, fun r run ended => exec_serviceRunExpiry awake run ended⟩
  have hears := State.listening.hears ⟨awake, free⟩
  refine ⟨fun _ => hears.serviceRunFan_length, fun a b c d => ?fan, fun _ => hears.serviceRunCompressor_length, fun a b => ?comp,
    fun params => ?pump, ?stop⟩
  case fan => exact hears.serviceRunFan a b c d (by unfold startFanRun; cases Channel.ofNum d.toNat <;> rfl)
  case comp => exact hears.serviceRunCompressor a b rfl
  case pump => exact hears.serviceRunPump params rfl
  case stop => exact hears.serviceStop

end Sys2Proof.Machine

/-! The soft reset: behind the blocks' own values come the states of the supply, the tank and the drain and the hold for the causes that stand, and
nothing else follows (R16, R36, R48, R59, R74, R95, R113, R130, R148, R165, R177, R182). -/

namespace Sys2Proof.Machine

/-! A part at rest -/

/-- No row is active, COMP_ON is off, drying is in LOCKOUT with mode OFF, and the check is IDLE: neither the airflow side nor the cycle nor the
check has anything to do. -/
structure State.AtRest (u : State) : Prop where
  arb : u.arb = Arbiter.atReset
  off : u.comp.on = false
  mode : u.dry.mode = .off
  phase : u.dry.phase = .lockout
  level : u.dry.level ≠ .defrost
  idleTimer : u.dry.idleTimer = none
  check : u.filt.check.state = .idle

section
variable {u : State}

/-- With no row active and the compressor off the grant is 0 (R42). -/
theorem State.AtRest.computedGrant (rest : u.AtRest) : u.computedGrant = 0 := by
  unfold State.computedGrant State.largestAtLeast
  rw [rest.arb, rest.off]
  split
  · rfl
  · exact Nat.zero_min u.ceiling

theorem State.AtRest.grant_same (rest : u.AtRest) : u.computedGrant = u.arb.granted := by
  rw [rest.computedGrant, rest.arb]
  rfl

theorem State.AtRest.not_filterBlocked (rest : u.AtRest) : ¬ u.filterBlocked := fun blocked => by
  have active := blocked.1
  rw [rest.arb] at active
  exact Bool.false_ne_true active

theorem State.AtRest.not_on (rest : u.AtRest) : ¬ u.comp.on = true := ne_true_of_eq_false rest.off

theorem State.AtRest.short_same (rest : u.AtRest) : u.shortNow = u.arb.airflowShort := by
  unfold State.shortNow
  rw [rest.off, rest.arb]
  rfl

theorem State.AtRest.not_airPending (rest : u.AtRest) : ¬ u.airPending := by
  rintro (filter | grant | comp | short)
  · exact rest.not_filterBlocked filter
  · exact grant rest.grant_same
  · exact rest.not_on comp.1
  · exact short rest.short_same

theorem State.AtRest.airflow (rest : u.AtRest) : airflow u = u := by
  have abort : abortFilter u = u := if_neg rest.not_filterBlocked
  have grant : updateGrant u = u := if_pos rest.grant_same
  have lock : interlock u = u := if_neg fun on => rest.not_on on.1
  have short : updateShort u = u := if_pos rest.short_same
  rw [Machine.airflow, abort, grant, lock, short]

theorem State.AtRest.not_idleNormal (rest : u.AtRest) : ¬ u.idleNormal := fun idle => nomatch rest.phase.symm.trans idle.2

theorem State.AtRest.not_runningNormal (rest : u.AtRest) : ¬ u.runningNormal := fun running => nomatch rest.phase.symm.trans running.2

theorem State.AtRest.not_checkMayStart (rest : u.AtRest) : ¬ u.checkMayStart := fun may => nomatch rest.check.symm.trans may.2.1

/-- In LOCKOUT no start begins, and a check that is IDLE is not due (R81, R144). -/
theorem State.AtRest.startsSync (rest : u.AtRest) : startsSync u = u := by
  have wait : waitSync u = u := if_neg fun waiting => rest.not_idleNormal waiting.1
  have start : startSync u = u := by
    rw [startSync, if_neg fun due => rest.not_idleNormal due.1, rest.airflow, wait]
  have check : checkStartSync u = u := if_neg rest.not_checkMayStart
  rw [Machine.startsSync, if_neg fun both => rest.not_checkMayStart both.1, start, check]

/-- With the check IDLE none ends and none samples (R145). -/
theorem State.AtRest.checkSync (rest : u.AtRest) : checkSync u = u := by
  have waiting : u.filt.check.state ≠ .waiting := by simp [rest.check]
  have sampling : u.filt.check.state ≠ .sampling := by simp [rest.check]
  refine (if_neg fun busy => busy.1.elim waiting sampling).trans ?_
  exact (if_neg fun ready => waiting ready.1).trans (if_neg fun lost => sampling lost.1)

/-- In LOCKOUT with mode OFF no demand, no timer and no start follows (R78, R80, R86, R92, R100, R101). -/
theorem State.AtRest.cycle (rest : u.AtRest) :
    idleSync (Machine.startsSync (lossSync (timerSync (stopSync (demandSync (Machine.checkSync u)))))) = u := by
  have demand : demandSync u = u := if_neg (by simp [rest.mode])
  have stop : stopSync u = u := if_neg fun ended => rest.level ended.1.1
  have timers : timerSync u = u := (if_neg fun melt => rest.level melt.1).trans (if_neg rest.not_runningNormal)
  have loss : lossSync u = u := if_neg fun lost => rest.not_runningNormal lost.1
  have idle : idleSync u = u := by
    have untimed : ¬ u.idleTiming := fun timing => rest.not_idleNormal timing.2.1
    unfold idleSync timerWhile
    rw [decide_eq_false untimed, if_neg Bool.false_ne_true, ← rest.idleTimer]
    rfl
  rw [rest.checkSync, demand, stop, timers, loss, rest.startsSync, idle]

end

/-! The states of the supply, the tank and the drain where no channel has a value (R118 to R120, R154) -/

/-- DRAIN_BLOCKED and its clear timer, from what they were (R115, R120). -/
def drained (mode : Drain) (w : Water) : Bool × Option Nat :=
  if mode ≠ .gravity ∨ w.tankIn.filtered = false then (false, none)
  else if w.float.filtered = true then (true, none)
  else if w.drainBlocked = true ∧ w.drainClear = none then (w.drainBlocked, some 0)
  else (w.drainBlocked, w.drainClear)

theorem drainSync_eq (s : State) : drainSync s = { s with water := { s.water with
    drainBlocked := (drained s.setup.optDrain s.water).1, drainClear := (drained s.setup.optDrain s.water).2 } } := by
  unfold drainSync drained
  split_ifs <;> rfl

/-- The tank state without a level: by the inputs, and a FULL that BUCKET mode holds (R118 to R120). -/
def tankUnread (mode : Drain) (w : Water) : TankState :=
  if w.tankIn.filtered = false then .out else if mode = .gravity then .normal
  else if w.float.filtered = true then .full else if w.tank = .full ∧ mode = .bucket then .full else .normal

theorem tankSync_unread {s : State} (level : s.qual .tankLvl = none) (noFault : s.water.fault = false) :
    tankSync s = { s with water := { s.water with tank := tankUnread s.setup.optDrain s.water } } := by
  have held : s.tankHeld = true ↔ s.water.tankIn.filtered = true ∧ s.water.tank = .full ∧ s.setup.optDrain = .bucket := by
    simp [tankHeld_iff, noFault]
  suffices tank : (if s.tankHeld then .full else s.tankFresh) = tankUnread s.setup.optDrain s.water by rw [tankSync_eq, tank]
  unfold tankUnread
  cases present : s.water.tankIn.filtered with
  | false => rw [if_neg (tankHeld_absent present), tankFresh_absent present, if_pos rfl]
  | true =>
    rw [if_neg Bool.false_ne_true.symm]
    by_cases gravity : s.setup.optDrain = .gravity
    · rw [if_neg (tankHeld_gravity gravity), tankFresh_gravity gravity, if_pos present, if_pos gravity]
    rw [tankFresh_table gravity, if_neg gravity]
    cases float : s.water.float.filtered with
    | true => rw [tankTable_float present float, ite_self, if_pos rfl]
    | false =>
      rw [tankTable_level present float, level, if_neg Bool.false_ne_true]
      exact if_congr (held.trans (and_iff_right present)) rfl rfl

/-- The Water Controller's record with both evaluated. -/
def Water.evaluated (mode : Drain) (w : Water) : Water :=
  { w with tank := tankUnread mode w, drainBlocked := (drained mode w).1, drainClear := (drained mode w).2 }

/-- A second evaluation finds what the first has left: a held FULL is held again, and a clear timer that runs is not started anew. -/
theorem Water.evaluated_again (mode : Drain) (w : Water) : (w.evaluated mode).evaluated mode = w.evaluated mode := by
  have tank : tankUnread mode (w.evaluated mode) = tankUnread mode w := by
    unfold Water.evaluated tankUnread
    dsimp only
    split_ifs <;> simp_all
  have drain : drained mode (w.evaluated mode) = drained mode w := by
    unfold Water.evaluated drained
    dsimp only
    split_ifs <;> simp_all
  rw [Water.evaluated, tank, drain]
  rfl

/-! The part behind a soft reset -/

/-- A drying record on hold for the given causes: in a hold its IDLE context waits (R106, R113). -/
def Drying.heldFor (d : Drying) (set : List HoldCause) : Drying :=
  { d with
    level := if set = [] then .normal else .hold, holdSet := set, slot2 := if set = [] then none else some (idleContext d) }

/-- The supply state where SUPPLY has no value: LOW where the channel is OFF, else as it was (R154). -/
def State.supplyUnread (s : State) (low : Bool) : Bool := if .supply ∈ s.scan.plan then low else true

theorem State.supplyUnread_again (s : State) (low : Bool) : s.supplyUnread (s.supplyUnread low) = s.supplyUnread low := by
  unfold State.supplyUnread
  split_ifs <;> rfl

/-- The part at its soft-reset values, with the given supply state and water record, on hold for the given causes. -/
def State.softened (s : State) (low : Bool) (w : Water) (set : List HoldCause) (ev : Events) : State :=
  { softBlocks s with supplyLow := low, water := w, dry := (s.dry.softReset s.time.uptime s.comp.on).heldFor set, ev := ev }

section
variable {s : State} {low : Bool} {w : Water} {set : List HoldCause} {ev : Events}

theorem softened_level : (s.softened low w set ev).dry.level ≠ .defrost := by
  show (if set = [] then DryLevel.normal else .hold) ≠ .defrost
  split <;> simp

theorem softened_atRest : (s.softened low w set ev).AtRest := ⟨rfl, rfl, rfl, rfl, softened_level, rfl, rfl⟩

/-- No channel is QUALIFIED after a soft reset (R36). -/
theorem qual_softened (c : Channel) : (s.softened low w set ev).qual c = none := by cases c <;> rfl

theorem stands_softened (c : HoldCause) : (s.softened low w set ev).stands c = (s.softened low w [] s.ev).stands c := by
  cases c <;> rfl

theorem publish_softened : ∃ e, publish (s.softened low w set ev) = s.softened low w set e := ⟨_, rfl⟩

/-- SUPPLY is OFF where it is no member of the plan, and else QUALIFYING (R36, R154). -/
theorem supplySync_softened : supplySync (s.softened low w set ev) = s.softened (s.supplyUnread low) w set ev := by
  have state : ((s.softened low w set ev).chan .supply).state = if .supply ∈ s.scan.plan then .qualifying else .off := rfl
  have value : ((s.softened low w set ev).chan .supply).value = none := rfl
  unfold State.supplyUnread
  by_cases planned : Channel.supply ∈ s.scan.plan
  · rw [if_pos planned] at state ⊢
    rw [supplySync_read (by simp [state]), value]
  · rw [if_neg planned] at state ⊢
    exact supplySync_lost (.inr state)

/-- The readers of the supply, the tank, the drain and the room find no value (R104, R118, R120, R154). -/
theorem inputs_softened (noFault : w.fault = false) : roomSync (drainSync (tankSync (supplySync (s.softened low w set ev)))) =
    s.softened (s.supplyUnread low) (w.evaluated s.setup.optDrain) set ev := by
  have room (low : Bool) (w : Water) : roomSync (s.softened low w set ev) = s.softened low w set ev := rfl
  rw [supplySync_softened, tankSync_unread (qual_softened .tankLvl) noFault, drainSync_eq]
  exact room _ _

/-! The raises -/

/-- The first cause enters the hold, and a further one joins its set (R106, R108). -/
theorem raiseCause_softened (c : HoldCause) :
    raiseCause c (s.softened low w set ev) = s.softened low w (insertCause c set) ev := by
  by_cases empty : set = []
  · subst empty
    exact raiseCause_normal (cause := c) (s := s.softened low w [] ev) rfl rfl
  · refine (raiseCause_further (not_inStop_of_level softened_level) empty).trans ?_
    simp only [State.softened, Drying.heldFor, if_neg empty, if_neg (insertCause_ne_nil c set)]

/-- The causes of a list are raised one by one, each handed on to the Event Latch. -/
theorem raiseAll_softened (cs : List HoldCause) : ∀ {set : List HoldCause} {ev : Events}, ∃ set' e,
    raiseAll cs (s.softened low w set ev) = s.softened low w set' e ∧ ∀ c, c ∈ set' ↔ c ∈ set ∨ c ∈ cs := by
  induction cs with
  | nil => exact fun {set ev} => ⟨set, ev, rfl, by simp⟩
  | cons x cs ih =>
    intro set ev
    obtain ⟨e, published⟩ := publish_softened (s := s) (low := low) (w := w) (set := insertCause x set) (ev := ev)
    obtain ⟨set', e', raised, members⟩ := ih (set := insertCause x set) (ev := e)
    refine ⟨set', e', ?_, fun c => ?_⟩
    · rw [raiseAll, raiseCause_softened, softened_atRest.airflow, published, raised]
    · rw [members, mem_insertCause, List.mem_cons, or_assoc]

/-- The owners bring the hold up to the causes that stand (R103). -/
theorem holdSync_softened (held : ∀ c ∈ set, (s.softened low w [] s.ev).stands c = true) : ∃ set' e,
    holdSync (s.softened low w set ev) = s.softened low w set' e ∧ ∀ c, c ∈ set' ↔ (s.softened low w [] s.ev).stands c = true := by
  have running : ¬ (s.softened low w set ev).inStop := not_inStop_of_level softened_level
  have clear : causesToClear (s.softened low w set ev) = [] :=
    causesToClear_eq_nil running fun c there => (stands_softened c).trans (held c there)
  obtain ⟨set', e, raised, members⟩ :=
    raiseAll_softened (s := s) (low := low) (w := w) (causesToRaise (s.softened low w set ev)) (set := set) (ev := ev)
  refine ⟨set', e, ?_, fun c => (members c).trans ?_⟩
  · rw [← raised, holdSync]
    by_cases quiet : causesToRaise (s.softened low w set ev) = []
    · rw [if_pos quiet, clear, quiet]; rfl
    · rw [if_neg quiet, if_pos clear]
  · rw [mem_causesToRaise running, stands_softened]
    exact ⟨fun there => there.elim (held c) And.left, fun stands => or_iff_not_imp_left.mpr fun new => ⟨stands, new⟩⟩

/-- What follows from the soft reset is the evaluation of the states and the hold for the causes that stand, and no more (R103, R113). -/
theorem settleRound_softened (noFault : w.fault = false)
    (held : ∀ c ∈ set, (s.softened (s.supplyUnread low) (w.evaluated s.setup.optDrain) [] s.ev).stands c = true) : ∃ set' e,
    settleRound (s.softened low w set ev) = s.softened (s.supplyUnread low) (w.evaluated s.setup.optDrain) set' e ∧
      ∀ c, c ∈ set' ↔ (s.softened (s.supplyUnread low) (w.evaluated s.setup.optDrain) [] s.ev).stands c = true := by
  have inputs := inputs_softened (s := s) (low := low) (set := set) (ev := ev) noFault
  generalize s.supplyUnread low = low' at *
  generalize w.evaluated s.setup.optDrain = w' at *
  obtain ⟨e₁, read⟩ := publish_softened (s := s) (low := low') (w := w') (set := set) (ev := ev)
  obtain ⟨e₂, air⟩ := publish_softened (s := s) (low := low') (w := w') (set := set) (ev := e₁)
  obtain ⟨set', e₃, holds, members⟩ := holdSync_softened (ev := e₂) held
  obtain ⟨e₄, last⟩ := publish_softened (s := s) (low := low') (w := w') (set := set') (ev := e₃)
  refine ⟨set', e₄, ?_, members⟩
  have first : airAndHolds (s.softened low' w' set e₁) = s.softened low' w' set' e₃ := by
    rw [airAndHolds, if_neg fun both => softened_atRest.not_airPending both.1, softened_atRest.airflow, air, holds]
  rw [settleRound, inputs, read, first, softened_atRest.cycle, softened_atRest.airflow, last]

theorem settleRounds_softened (n : Nat) : ∀ {low : Bool} {w : Water} {set : List HoldCause} {ev : Events}, w.fault = false →
    (∀ c ∈ set, (s.softened (s.supplyUnread low) (w.evaluated s.setup.optDrain) [] s.ev).stands c = true) → ∃ set' e,
      settleRounds (n + 1) (s.softened low w set ev) = s.softened (s.supplyUnread low) (w.evaluated s.setup.optDrain) set' e ∧
      ∀ c, c ∈ set' ↔ (s.softened (s.supplyUnread low) (w.evaluated s.setup.optDrain) [] s.ev).stands c = true := by
  induction n with
  | zero => exact settleRound_softened
  | succ n ih =>
    intro low w set ev noFault held
    obtain ⟨set₁, e₁, round, members⟩ := settleRound_softened (ev := ev) noFault held
    have again := ih (low := s.supplyUnread low) (w := w.evaluated s.setup.optDrain) (set := set₁) (ev := e₁) noFault
    rw [s.supplyUnread_again, Water.evaluated_again] at again
    obtain ⟨set', e, rounds, settled⟩ := again fun c => (members c).mp
    exact ⟨set', e, by rw [settleRounds, round, rounds], settled⟩

end

/-! What the blocks' own values are, written out -/

/-- A run in RUNNING is ended with its water measured, and a rest is dropped (R130). -/
theorem Water.softReset_eq (now : Nat) (moved : Option Nat) (w : Water) :
    let pumping : Bool := decide (w.pump.state = .running)
    w.softReset now moved = { w with
      pumpOn := false, failures := 0, fault := false, total := if pumping then min 4294967295 (w.total + moved.getD 0) else w.total,
      unknownRuns := if pumping = true ∧ moved = none then min 65535 (w.unknownRuns + 1) else w.unknownRuns,
      pump := { w.pump with
        state := .idle, rest := none, result := if pumping then some .abortedReset else w.pump.result,
        endedAt := if pumping then some now else w.pump.endedAt, moved := if pumping then moved else w.pump.moved } } := by
  intro pumping
  unfold Water.softReset
  by_cases running : w.pump.state = .running
  · have on : pumping = true := decide_eq_true running
    rw [on, if_pos running]
    cases moved <;> rfl
  · have off : pumping = false := decide_eq_false running
    rw [off, if_neg running]
    rfl

/-- The check's record: abandoned, and due where the pressure slot lacks a baseline (R148). -/
def State.softCheck (s : State) : Check :=
  let busy : Bool := decide (s.filt.check.state = .waiting ∨ s.filt.check.state = .sampling)
  let unset : Bool := decide ((s.slot s.setup.pressureSlot).state ≠ .empty ∧ (s.slot s.setup.pressureSlot).baseline = none)
  { s.filt.check with
    state := if unset then .due else .idle, dueCause := if unset then some .fit else none, requested := false, retry := none, timer := none,
    samples := 0, sum := 0, lastResult := if busy then some .abortedReset else s.filt.check.lastResult,
    lastEnded := if busy then some s.time.uptime else s.filt.check.lastEnded }

/-- The part when a soft reset has settled, on hold for the given causes. -/
def State.softSettled (s : State) (set : List HoldCause) (ev : Events) : State :=
  s.softened (s.supplyUnread s.supplyLow) ((s.water.softReset s.time.uptime s.waterMoved).evaluated s.setup.optDrain) set ev

theorem settle_softBlocks (s : State) : ∃ set e, settle (softBlocks s) = s.softSettled set e ∧
    ∀ c, c ∈ set ↔ (s.softSettled set e).stands c = true := by
  have noFault : (s.water.softReset s.time.uptime s.waterMoved).fault = false := rfl
  obtain ⟨set, e, settled, members⟩ :=
    settleRounds_softened (s := s) 5 (low := s.supplyLow) (set := []) (ev := s.ev) noFault (by simp)
  exact ⟨set, e, settled, fun c => (members c).trans (by rw [State.softSettled, stands_softened (set := set)])⟩

theorem softResetDue_settled (s : State) (set : List HoldCause) (e : Events) :
    softResetDue (s.softSettled set e) = (s.softSettled set e).withCheck s.softCheck := by
  unfold State.softCheck
  by_cases unset : (s.slot s.setup.pressureSlot).state ≠ .empty ∧ (s.slot s.setup.pressureSlot).baseline = none
  · have due : softResetDue (s.softSettled set e) = (s.softSettled set e).withCheck
      { (s.softSettled set e).filt.check with state := .due, dueCause := some .fit } := if_pos unset
    rw [due, decide_eq_true unset]
    simp only [decide_eq_true_eq]
    rfl
  · have idle : softResetDue (s.softSettled set e) = s.softSettled set e := if_neg unset
    rw [idle, decide_eq_false unset]
    simp only [decide_eq_true_eq]
    rfl

/-- The part when a soft reset is over and the answer place is free (R165, R177). -/
def State.softEnded (s : State) (set : List HoldCause) (e : Events) : State :=
  let u := (s.softSettled set e).withCheck s.softCheck
  { u with
    ev := { u.ev with
      stored := conditions u, list := [{ id := 21, edge := .once, count := 1, cause := some .linkSoft }], lastCause := .linkSoft },
    link := { s.link with silence := 0, silent := false, answer := none, held := none } }

/-- The Water Controller's record, with the run's end written out (R130). -/
theorem softEnded_water (s : State) (set : List HoldCause) (e : Events) :
    let pumping : Bool := decide (s.water.pump.state = .running)
    (s.softEnded set e).water = Water.evaluated s.setup.optDrain { s.water with
      pumpOn := false, failures := 0, fault := false,
      total := if pumping then min 4294967295 (s.water.total + s.movedBy.getD 0) else s.water.total,
      unknownRuns := if pumping = true ∧ s.movedBy = none then min 65535 (s.water.unknownRuns + 1) else s.water.unknownRuns,
      pump := { s.water.pump with
        state := .idle, rest := none, result := if pumping then some .abortedReset else s.water.pump.result,
        endedAt := if pumping then some s.time.uptime else s.water.pump.endedAt,
        moved := if pumping then s.movedBy else s.water.pump.moved } } :=
  congrArg (Water.evaluated s.setup.optDrain) (s.water.softReset_eq s.time.uptime s.waterMoved)

/-- The answer place empties, and the held request, if there is one, is taken (R169). -/
theorem takeHeld_elim (s : State) : takeHeld s =
    let free := s.setLink { s.link with answer := none, held := none }
    s.link.held.elim free (takeRequest · free) := by
  unfold takeHeld
  cases s.link.held <;> rfl

/-- The soft reset ends in a hold for exactly the causes that stand, with all else as the blocks have set it, and the held request is taken
behind it. -/
theorem linkSoftReset_eq (s : State) : ∃ set e, (∀ c, c ∈ set ↔ (s.softEnded set e).stands c = true) ∧
    (s.softEnded set e).kept = { (softBlocks s).kept with
      lastCause := .linkSoft, link := { s.link with silence := 0, silent := false, answer := none, held := none } } ∧
    linkSoftReset s = s.link.held.elim (s.softEnded set e) (takeRequest · (s.softEnded set e)) := by
  obtain ⟨set, e, settled, members⟩ := settle_softBlocks s
  have kept : (s.softSettled set e).kept = (softBlocks s).kept := settled ▸ settle_kept (softBlocks s)
  refine ⟨set, e, fun c => (members c).trans (by cases c <;> rfl), ?_, ?_⟩
  · rw [← kept]
    rfl
  · rw [linkSoftReset, takeHeld_elim, softReset, settled, softResetDue_settled]
    rfl

/-- Settles O47: the blocks' own values, field by field, with the hold and the states that settle behind them. -/
theorem softResetKeepsWhatItsRulesKeep : Obligations.SoftResetKeepsWhatItsRulesKeep := by
  intro s a awake answer next now pumping busy unset
  obtain ⟨set, e, members, kept, ended⟩ := linkSoftReset_eq s
  have water := softEnded_water s set e
  refine ⟨s.softEnded set e, ?run, ⟨rfl, rfl, rfl, rfl, fun c => ?chan, ?kept⟩, rfl, rfl, rfl, rfl, members, rfl, ?pump, ?tank,
    fun same => ?drain, rfl⟩
  case run =>
    rw [exec_softReset awake answer next, ended]
    cases s.link.held <;> rfl
  case chan => cases c <;> rfl
  case kept =>
    rw [kept, softBlocks, s.water.softReset_eq]
    rfl
  case pump =>
    rw [water]
    rfl
  case tank =>
    rw [water]
    rfl
  case drain =>
    rw [drainSync_eq] at same
    rw [water]
    exact ⟨congrArg (fun u => u.water.drainBlocked) same, congrArg (fun u => u.water.drainClear) same⟩

end Sys2Proof.Machine
